-- ==== Sys2Proof/Word.lean ====
section
/-! DEFINITION. The words of the part (R1, 0.4.4) and the pair of array devices. -/

namespace Sys2Proof

/-- R1: a word is 16 bits; all host data and all array device data are words. -/
abbrev Word := BitVec 16

/-- A byte of the management link (0.4.4). -/
abbrev Byte := BitVec 8

/-- The words of one memory face read, at most a line of 16 (R1, R145). -/
abbrev LineWords := Vector Word 16

/-- The two array device positions (0.4.2). -/
inductive Dev where
  | dev0
  | dev1
  deriving DecidableEq, Repr

/-- One value for each array device. -/
structure PerDev (α : Type) where
  dev0 : α
  dev1 : α
  deriving DecidableEq, Repr

namespace PerDev

variable {α : Type}

/-- The value held for device `d`. -/
def get (p : PerDev α) : Dev → α
  | .dev0 => p.dev0
  | .dev1 => p.dev1

/-- The pair with device `d`'s value replaced. -/
def set (p : PerDev α) (d : Dev) (a : α) : PerDev α :=
  match d with
  | .dev0 => { p with dev0 := a }
  | .dev1 => { p with dev1 := a }

end PerDev

end Sys2Proof
end

