-- ==== Sys2Proof/Config.lean ====
section
/-! DEFINITION. The constants of the part: sizes (0.5), device words (12.4), fixed timeouts and identity (R200).
No value of the spec is left undefined, so there is no free value here. -/

namespace Sys2Proof.Config

/-- Word addresses of one array device (R1). -/
def deviceWords : Nat := 16777216
/-- Lines of the whole address space (R1). -/
def lines : Nat := 2097152
/-- Lines of one array device: device 1 begins at this line (R1). -/
def deviceLines : Nat := 1048576
/-- Words of a sector (R1). -/
def sectorWords : Nat := 65536
/-- Lines of a sector (R1). -/
def sectorLines : Nat := 4096
/-- Sectors of the address space (R1). -/
def sectors : Nat := 512
/-- Words of a line and of a slot (R1). -/
def lineWords : Nat := 16
/-- Slots of the overlay store (R48). -/
def slots : Nat := 2048
/-- Entry positions of a bank (R4). -/
def positions : Nat := 64
/-- Records the notice queue holds (R156). -/
def queueLimit : Nat := 32
/-- The word a store word holds after the power-on clear (R48) and after an erase's follow write (R17). -/
def erasedWord : Word := 0xFFFF

/-- R66: the device command words. -/
def arrayWord : Word := 0x3C00
def programWord : Word := 0x3C11
def eraseWord : Word := 0x3C22
def suspendWord : Word := 0x3C44
def resumeWord : Word := 0x3C45
def statusWord : Word := 0x3C55
def clearStatusWord : Word := 0x3C66
def confirmWord : Word := 0x3CEE

/-- R122: the fixed suspend timeout, in µs. -/
def suspendTimeout : Nat := 100
/-- R178: the fixed probe timeout, 50 ms in µs. -/
def probeTimeout : Nat := 50000

/-- R200: the part code and revision. -/
def partCode : Nat := 0x6420
def revision : Nat := 1

/-- R168: the greatest length word of a start-up record, and the records of a boot area. -/
def recordBodyLimit : Nat := 4200
def recordLimit : Nat := 128

/-- R187: the greatest argument length of a frame. -/
def argumentLimit : Nat := 1024

end Sys2Proof.Config
end

