-- ==== Sys2Proof/Syntax.lean ====
section
/-! DEFINITION. The commands of the part: one constructor for each row of spec/opcode_table.json, with the row's operands. -/

namespace Sys2Proof

/-- R132: a host read is a burst of 1, 4, 8 or 16 words. -/
inductive BurstLength where
  | one
  | four
  | eight
  | sixteen
  deriving DecidableEq, Repr

/-- R188, R192: why a frame is answered BAD_FRAME. -/
inductive BadFrameCause where
  /-- The check value received does not match (check 1 of R192). -/
  | checkMismatch
  /-- The argument length is above 1,024 (R188). -/
  | argumentLength
  deriving DecidableEq, Repr

/-- The commands. The requests carry the tag and the argument bytes of their frame (R187, R209). -/
inductive Instr where
  /-- POWER_ON_RESET, with the straps DEVCOUNT and BOOTSEL, whether HRST_N is asserted, and the levels of the ready lines. -/
  | powerOnReset (devcount bootsel hrstAsserted ready0 ready1 : Bool)
  | hostReset
  | hrstNRelease
  | hostRead (addr : BitVec 25) (len : BurstLength)
  | hostWrite (addr : BitVec 25) (word : Word)
  | lselNDeasserted
  | badFrame (tag : Byte) (cause : BadFrameCause)
  | badCommand (code tag : Byte) (args : List Byte)
  | getIdentity (tag : Byte) (args : List Byte)
  | getStatus (tag : Byte) (args : List Byte)
  | clearOverlay
  | clearNotices
  | defaultPolicies
  | reload
  | readEntry (tag : Byte) (args : List Byte)
  | stageEntry (tag : Byte) (args : List Byte)
  | clearStaged (tag : Byte) (args : List Byte)
  | copyActive (tag : Byte) (args : List Byte)
  | commit (tag : Byte) (args : List Byte)
  | cancelCommit (tag : Byte) (args : List Byte)
  | setStorePointer (tag : Byte) (args : List Byte)
  | writeStore (tag : Byte) (args : List Byte)
  | readStore (tag : Byte) (args : List Byte)
  | fill (tag : Byte) (args : List Byte)
  | abortFill (tag : Byte) (args : List Byte)
  | readTracker (tag : Byte) (args : List Byte)
  | setLock (tag : Byte) (args : List Byte)
  | readLocks (tag : Byte) (args : List Byte)
  | setPolicy (tag : Byte) (args : List Byte)
  | readPolicy (tag : Byte) (args : List Byte)
  | popNotices (tag : Byte) (args : List Byte)
  | readTallies (tag : Byte) (args : List Byte)
  | clearTallies (tag : Byte) (args : List Byte)
  | setNoticeEnable (tag : Byte) (args : List Byte)
  | readyLineRises (d : Dev)
  | readyLineFalls (d : Dev)
  /-- MEMORY_FACE_GRANT, with the device whose tracker request goes first where R148 lets either. -/
  | memoryFaceGrant (first : Dev)
  /-- MEMORY_TRANSACTION_ENDS, with the words the device returned, of which a read of n words uses the first n. -/
  | memoryTransactionEnds (words : LineWords)
  | storePortAccess
  | stallTimeout
  | suspendTimeout (d : Dev)
  | minRunElapses
  | resumeIdleTimerExpires (d : Dev)
  | holdMaxTimerExpires (d : Dev)
  | commitExpired
  | probeTimeout
  | loadBegins
  | softReset (tag : Byte) (args : List Byte)
  | startByteReceived
  | responseTaken
  deriving DecidableEq, Repr

end Sys2Proof
end

