-- ==== Sys2Proof/Machine/State.lean ====
section
/-! DEFINITION. The state of the part: plain data, every piece of state the spec names (INVENTORY.md lists it with its rules), and its value right after power-on reset. -/

namespace Sys2Proof.Machine

/-- The part never stops with a fault: the spec gives none (log 33). -/
inductive Fault where
  deriving DecidableEq, Repr

/-- Why a command has no meaning. -/
inductive Refusal where
  /-- Raised by `exec` alone, for a command whose meaning is not written. Safe: the model stops. -/
  | notModelled (mnemonic : String)
  deriving DecidableEq, Repr

/-- R5: the mode of a present entry with the fields the mode holds. -/
inductive EntryMode where
  | replace (slot : Nat) (follow : Bool) (check : Option Word)
  | blank (fillWord : Word)
  | trap
  deriving DecidableEq, Repr

/-- R5: a present entry, without its hit count. -/
structure Entry where
  firstLine : Nat
  lineCount : Nat
  mode : EntryMode
  deriving DecidableEq, Repr

/-- R5: a present entry of the ACTIVE bank. -/
structure ActiveEntry where
  entry : Entry
  hitCount : Nat
  deriving DecidableEq, Repr

/-- R4: the 64 positions of a bank, each absent or present. -/
abbrev StagedBank := Vector (Option Entry) 64
abbrev ActiveBank := Vector (Option ActiveEntry) 64

/-- R34: the mode of a commit. -/
inductive CommitMode where
  | immediate
  | atMark (markLine expiry : Nat)
  deriving DecidableEq, Repr

/-- R28: who asked for the commit. -/
inductive Origin where
  | management
  | loader
  deriving DecidableEq, Repr

/-- R28: the fields of a commit in flight. -/
structure InFlight where
  mode : CommitMode
  origin : Origin
  deriving DecidableEq, Repr

/-- R28, R36: the verification cursor, with the check value folded so far. -/
structure Cursor where
  position : Nat
  index : Nat
  check : Word
  deriving DecidableEq, Repr

/-- R28: the commit unit's state with the fields each state holds. -/
inductive Commit where
  | idle
  | verifying (f : InFlight) (c : Cursor)
  | pendingBoundary (f : InFlight)
  /-- `since` is the entry to PENDING_MARK, from which the expiry counts (R42). -/
  | pendingMark (f : InFlight) (since : Nat)
  deriving DecidableEq, Repr

/-- R48: the overlay store as (word address, word) cells, word address slot × 16 + offset. -/
abbrev Store := List (Nat × Word)

/-- R52: the store pointer. -/
structure StorePtr where
  slot : Nat
  offset : Nat
  deriving DecidableEq, Repr

/-- R56: why a running fill is to stop. -/
inductive AbortCause where
  | aborted
  | cleared
  deriving DecidableEq, Repr

/-- R56, R59: where the fill stands with its next line. -/
inductive FillStage where
  /-- No line in flight. -/
  | waiting
  /-- The line's read is granted. -/
  | reading
  /-- The line buffer's words are being written, `offset` the next. -/
  | writing (buffer : LineWords) (offset : Nat)
  deriving DecidableEq, Repr

/-- R56: what the fill engine holds while RUNNING. -/
structure FillJob where
  firstSlot : Nat
  firstLine : Nat
  lineCount : Nat
  target : Option Nat
  check : Word
  stage : FillStage
  abort : Option AbortCause
  deriving DecidableEq, Repr

/-- R56: the fill engine: IDLE when there is no job. -/
structure Fill where
  job : Option FillJob
  progress : Nat
  deriving DecidableEq, Repr

/-- R18: the store words a follow update will write, fixed at its completion. -/
inductive FollowRun where
  | program (dev : Dev) (slot offset : Nat) (data : Word)
  /-- The slots still to write, and the next word offset of the first of them. -/
  | erase (dev : Dev) (slots : List Nat) (offset : Nat)
  deriving DecidableEq, Repr

/-- R18: the follow run in progress and the follow list. -/
structure Follow where
  current : Option FollowRun
  waiting : List FollowRun
  deriving DecidableEq, Repr

/-- R69: the suspension owner. -/
inductive Owner where
  | part
  | host
  deriving DecidableEq, Repr

/-- R69: the fields of one erase operation, set at its forwarding. -/
structure EraseFields where
  count : Nat
  snapshot : Nat
  disabled : Bool
  deriving DecidableEq, Repr

/-- R69: a tracker record's state with the fields present in it. -/
inductive Record where
  | probe
  | absent
  | array
  | heldProgram (addr : Nat)
  | heldErase (addr : Nat)
  | status (sector : Nat)
  | refused (sector : Nat)
  | busyProgram (sector target : Nat) (data : Word)
  | busyErase (sector target : Nat) (erase : Option EraseFields)
  | suspending (sector target : Nat) (owner : Owner) (pendingResume : Bool) (erase : Option EraseFields)
  | suspended (sector target : Nat) (owner : Owner) (pendingResume : Bool) (erase : Option EraseFields)
  deriving DecidableEq, Repr

/-- R87, R89, R131: a host write the tracker keeps. -/
structure KeptWrite where
  addr : Nat
  word : Word
  /-- The host still waits for it, so its taking ends the host face's transaction. -/
  hostWaits : Bool
  /-- Kept for a status read or a cleanup write (R87, R89), not only for the host path (R131). -/
  untilState : Bool
  deriving DecidableEq, Repr

/-- The command tracker's state for one device. -/
structure Tracker where
  record : Record
  /-- R85: the transaction that last lowered the ready line has ended, so the next rise is a completion. -/
  armed : Bool
  /-- R86, R121: a status read is to decide the record. -/
  reading : Bool
  /-- R18: the completion's follow run, kept back from the follow list. -/
  keptRun : Option FollowRun
  kept : List KeptWrite
  deriving DecidableEq, Repr

/-- R92: the state of a sector. -/
inductive Lock where
  | opened
  | locked
  | frozen
  deriving DecidableEq, Repr

/-- R106: STALL or PASS. -/
inductive MissPolicy where
  | stall
  | pass
  deriving DecidableEq, Repr

/-- R106: the policy of one device. -/
structure Policy where
  missPolicy : MissPolicy
  autoSuspend : Bool
  budget : Nat
  resumeIdle : Nat
  minRun : Nat
  holdMax : Nat
  stallTimeout : Nat
  faultWord : Word
  deriving DecidableEq, Repr

/-- R125, R126: which timer called for a resume. -/
inductive ResumeCall where
  | idle
  | holdMax
  deriving DecidableEq, Repr

/-- R119: the suspend controller's state for one device; timers are start times. Its requests stand in the tracker service slot. -/
structure Controller where
  lastResume : Option Nat
  budgetReported : Bool
  suspendTimer : Option Nat
  idleTimer : Option Nat
  holdTimer : Option Nat
  call : Option ResumeCall
  deriving DecidableEq, Repr

/-- R8, R9: the classification of a host read burst; a hit keeps its entry's position, mode and line offset. -/
inductive Classification where
  | bypass
  | hit (position : Nat) (mode : EntryMode) (k : Nat)
  | miss
  deriving DecidableEq, Repr

/-- R113 to R116: what a stalled burst waits for. -/
inductive StallWhy where
  /-- An available suspension, once min_run has elapsed (R113). -/
  | minRun
  /-- The forwarding of the SUSPEND raised for it (R120). -/
  | suspendRaised
  /-- The outcome of SUSPENDING (R115). -/
  | suspending
  /-- It fell to the miss_policy STALL (R112, R113). -/
  | policy
  deriving DecidableEq, Repr

/-- R134: how the read in progress is being served. -/
inductive ReadStage where
  | store
  | forwarded
  /-- R149: its miss decision waits for the grant of the record's command pair. -/
  | deferred
  /-- `since` is the start of the stall timer (R117). -/
  | stalled (since : Nat) (why : StallWhy)
  deriving DecidableEq, Repr

/-- R129: the read record. -/
structure ReadRecord where
  addr : Nat
  count : Nat
  line : Nat
  generation : Word
  cls : Classification
  stage : ReadStage
  deriving DecidableEq, Repr

/-- R129: the transaction field with its record. -/
inductive Transaction where
  | none
  | read (r : ReadRecord)
  | write (addr : Nat) (word : Word)
  | heldRead (addr count : Nat)
  | heldWrite (addr : Nat) (word : Word)
  deriving DecidableEq, Repr

/-- R129: the host face record. -/
structure HostFace where
  transaction : Transaction
  loadHold : Bool
  resetAsserted : Bool
  /-- The words answered so far to the present or last burst. -/
  dataOut : List Word
  /-- R141: a dropped burst's store access still waiting at the port (its store word address). -/
  dropped : Option Nat
  deriving DecidableEq, Repr

/-- Who raised a RESUME on the tracker service (R124, R126, R89, R180). -/
inductive ResumeCause where
  | timers
  | pendingResume
  | cleanup
  | loader
  deriving DecidableEq, Repr

/-- R147: what a tracker service request asks for. -/
inductive ServiceWork where
  /-- A one-word status read; `discard` when its reading has been dropped (R86). -/
  | statusRead (discard : Bool)
  | suspend
  | resume (cause : ResumeCause)
  /-- An ARRAY write of host reset cleanup (R89), or else of the loader (R180). -/
  | arrayWrite (cleanup : Bool)
  deriving DecidableEq, Repr

/-- R147, R148: a tracker service request, with how many host path transactions of its device were raised before it and still wait. -/
structure ServiceReq where
  work : ServiceWork
  addr : Nat
  behind : Nat
  deriving DecidableEq, Repr

/-- R145: a transaction of the host path. -/
inductive HostTxn where
  /-- A read of a burst; `discard` once the burst is dropped (R141). -/
  | read (addr count : Nat) (bypass discard : Bool)
  | write (addr : Nat) (word : Word)
  | pair (heldAddr : Nat) (heldWord : Word) (addr : Nat) (word : Word)
  deriving DecidableEq, Repr

/-- R146: the granted transaction and the requester that raised it. -/
inductive BusTxn where
  | service (d : Dev) (work : ServiceWork) (addr : Nat)
  | host (t : HostTxn)
  | loader (addr count : Nat)
  | fill (addr : Nat)
  deriving DecidableEq, Repr

/-- R154: the 18 kinds of notice, in the order of their codes (12.2). -/
inductive NoticeKind where
  | guardRefused
  | sequenceRefused
  | shadowedWrite
  | stallTimeout
  | opDone
  | opFailed
  | suspendFailed
  | budgetSpent
  | trapHit
  | fillDone
  | fillFailed
  | commitTaken
  | commitRejected
  | commitExpired
  | commitCancelled
  | loadDone
  | loadError
  | hostReset
  deriving DecidableEq, Repr

/-- R153: a notice record. -/
structure Notice where
  sequence : Word
  kind : NoticeKind
  device : Option Dev
  time : BitVec 32
  address : Option Nat
  entry : Option Nat
  detail : Word
  deriving DecidableEq, Repr

/-- R156: the notice unit; the enable set and the tallies are in the order of the kinds. -/
structure NoticeUnit where
  queue : List Notice
  next : Word
  enabled : Vector Bool 18
  tally : Vector Nat 18
  overflow : Nat
  deriving DecidableEq, Repr

/-- R167: the origin of a load. -/
inductive LoadOrigin where
  | powerOn
  | reload
  deriving DecidableEq, Repr

/-- R167: the loader's state with the fields present in it. -/
inductive LoaderState where
  | idle
  /-- `since` is the start of WAITING, from which the probe timer counts. -/
  | waiting (origin : LoadOrigin) (since : Nat)
  | reading (origin : LoadOrigin) (index position : Nat) (buffer : List Word)
  /-- `written` inline words of the valid OVERLAY record in `buffer` are in the store (R175). -/
  | applying (origin : LoadOrigin) (index position : Nat) (buffer : List Word) (written : Nat)
  /-- `count` is the record count that LOAD_DONE will carry (R177). -/
  | committing (origin : LoadOrigin) (count : Nat)
  deriving DecidableEq, Repr

/-- R167: the start-up loader. -/
structure Loader where
  state : LoaderState
  bootSector : Nat
  deriving DecidableEq, Repr

/-- R185: the receiver's states. -/
inductive Receiver where
  | init
  | hunt
  | receiving
  | discarding
  deriving DecidableEq, Repr

/-- R194: the eight status codes. -/
inductive RespStatus where
  | ok
  | busy
  | badFrame
  | badCommand
  | badArg
  | refusedLive
  | refusedState
  | notReady
  deriving DecidableEq, Repr

/-- R196: a response, without its framing. -/
structure Response where
  tag : Byte
  status : RespStatus
  payload : List Byte
  deriving DecidableEq, Repr

/-- R187: a complete request frame, with whether its check value matches (check 1 of R192). -/
structure Frame where
  code : Byte
  tag : Byte
  args : List Byte
  checkOk : Bool
  deriving DecidableEq, Repr

/-- R54, R55: the words a WRITE_STORE has still to write, or a READ_STORE to read. -/
inductive StoreWork where
  | write (remaining : List Word) (count : Nat)
  | read (remaining : Nat) (words : List Word)
  deriving DecidableEq, Repr

/-- R185: the request in processing. Only store requests last longer than one step (R191). -/
structure Processing where
  frame : Frame
  superseded : Bool
  work : StoreWork
  deriving DecidableEq, Repr

/-- R185: a response in the slot with its output position. -/
structure ResponseSlot where
  response : Response
  position : Nat
  deriving DecidableEq, Repr

/-- R185: the management link's state. -/
structure Link where
  receiver : Receiver
  frameBuffer : Option (List Byte)
  waiting : Option Frame
  processing : Option Processing
  slot : Option ResponseSlot
  pendingResponse : Option Response
  deriving DecidableEq, Repr

/-- 0.7: the straps as sampled at power-on. -/
structure Straps where
  /-- DEVCOUNT is 1: two devices installed. -/
  twoDevices : Bool
  /-- BOOTSEL is 1: the boot area is sector 255. -/
  bootHigh : Bool
  deriving DecidableEq, Repr

/-- The state of the part. -/
structure State where
  /-- Microseconds since power-on; the time base of R3 is its low 32 bits. -/
  clock : Nat
  straps : Straps
  active : ActiveBank
  staged : StagedBank
  generation : Word
  commit : Commit
  store : Store
  ptr : StorePtr
  fill : Fill
  follow : Follow
  /-- MF_RDYn as last seen: high is true. -/
  readyLine : PerDev Bool
  tracker : PerDev Tracker
  locks : Vector Lock 512
  policy : PerDev Policy
  controller : PerDev Controller
  host : HostFace
  /-- R146: FREE when none. -/
  bus : Option BusTxn
  /-- R147: the host path list, oldest first. -/
  hostPath : List HostTxn
  service : PerDev (Option ServiceReq)
  notices : NoticeUnit
  loader : Loader
  link : Link
  /-- The commands waiting, first in first out. -/
  pending : List Instr
  deriving DecidableEq, Repr

/-- R106: the default policy. -/
def Policy.default : Policy :=
  { missPolicy := .stall, autoSuspend := true, budget := 8, resumeIdle := 50, minRun := 200, holdMax := 2000,
    stallTimeout := 5000, faultWord := 0xFFFF }

/-- R119: no timer runs, no request is called for and the flag is clear. -/
def Controller.lapsed : Controller :=
  { lastResume := none, budgetReported := false, suspendTimer := none, idleTimer := none, holdTimer := none, call := none }

/-- R69, R88: a tracker record at power-on. -/
def Tracker.start (installed : Bool) : Tracker :=
  { record := if installed then .probe else .absent, armed := false, reading := false, keptRun := none, kept := [] }

/-- R165: the notice unit at power-on. -/
def NoticeUnit.start : NoticeUnit :=
  { queue := [], next := 0, enabled := Vector.replicate 18 true, tally := Vector.replicate 18 0, overflow := 0 }

/-- R178: every block at its power-on value, the tracker records in PROBE, load hold on, the loader WAITING with
origin POWER_ON and the link in HUNT (R185), before any ready line has been looked at. -/
def State.powerOn (devcount bootsel hrstAsserted ready0 ready1 : Bool) (pending : List Instr) : State :=
  { clock := 0
    straps := { twoDevices := devcount, bootHigh := bootsel }
    active := Vector.replicate 64 none
    staged := Vector.replicate 64 none
    generation := 0
    commit := .idle
    store := []
    ptr := { slot := 0, offset := 0 }
    fill := { job := none, progress := 0 }
    follow := { current := none, waiting := [] }
    readyLine := { dev0 := ready0, dev1 := ready1 }
    tracker := { dev0 := Tracker.start true, dev1 := Tracker.start devcount }
    locks := Vector.replicate 512 .opened
    policy := { dev0 := Policy.default, dev1 := Policy.default }
    controller := { dev0 := Controller.lapsed, dev1 := Controller.lapsed }
    host := { transaction := .none, loadHold := true, resetAsserted := hrstAsserted, dataOut := [], dropped := none }
    bus := none
    hostPath := []
    service := { dev0 := none, dev1 := none }
    notices := NoticeUnit.start
    loader := { state := .waiting .powerOn 0, bootSector := if bootsel then 255 else 0 }
    link := { receiver := .hunt, frameBuffer := none, waiting := none, processing := none, slot := none,
              pendingResponse := none }
    pending := pending }

/-- The part right after power-on reset (R178). DESIGN CHOICE, unsafe (log 1): two devices installed, BOOTSEL 0,
HRST_N released, both ready lines low. -/
def State.reset : State := State.powerOn true false false false false []

end Sys2Proof.Machine
end

