-- ==== Sys2Proof/Machine/Flags.lean ====
section
/-! DEFINITION. The device status word (R67, R211) and the kinds of host write (R71). -/

namespace Sys2Proof.Machine

/-- R211: bit 7, READY. -/
def statusReady (w : Word) : Bool := w.getLsbD 7
/-- R211: bit 6, SUSPENDED. -/
def statusSuspended (w : Word) : Bool := w.getLsbD 6
/-- R211: bit 5, ERASE_FAIL. -/
def statusEraseFail (w : Word) : Bool := w.getLsbD 5
/-- R211: bit 4, PROGRAM_FAIL. -/
def statusProgramFail (w : Word) : Bool := w.getLsbD 4
/-- R211: bit 3, PROTECT_FAIL. -/
def statusProtectFail (w : Word) : Bool := w.getLsbD 3

/-- R67: ERASE_FAIL, PROGRAM_FAIL and PROTECT_FAIL are the fail flags. -/
def statusFails (w : Word) : Bool := statusEraseFail w || statusProgramFail w || statusProtectFail w

/-- R83: the synthetic status word, READY, PROTECT_FAIL and GUARD set and every other flag clear. -/
def syntheticStatus : Word := 0x0089

/-- R71: the kinds of host write. -/
inductive WriteKind where
  | array
  | program
  | erase
  | suspend
  | resume
  | status
  | clearStatus
  | other
  deriving DecidableEq, Repr

/-- R71: a write's kind is decided by its word alone. -/
def writeKind (w : Word) : WriteKind :=
  if w = Config.arrayWord then .array
  else if w = Config.programWord then .program
  else if w = Config.eraseWord then .erase
  else if w = Config.suspendWord then .suspend
  else if w = Config.resumeWord then .resume
  else if w = Config.statusWord then .status
  else if w = Config.clearStatusWord then .clearStatus
  else .other

/-- R1: the device in whose word addresses a word address lies. -/
def devOf (addr : Nat) : Dev := if addr < Config.deviceWords then .dev0 else .dev1

/-- R1: the device in which a line lies. -/
def devOfLine (line : Nat) : Dev := if line < Config.deviceLines then .dev0 else .dev1

/-- R1: the line that holds a word. -/
def lineOf (addr : Nat) : Nat := addr / Config.lineWords

/-- R1: the sector that holds a word. -/
def sectorOf (addr : Nat) : Nat := addr / Config.sectorWords

/-- R1: the sector that holds a line. -/
def sectorOfLine (line : Nat) : Nat := line / Config.sectorLines

/-- R1: the word offset of a word in its line. -/
def offsetOf (addr : Nat) : Nat := addr % Config.lineWords

/-- R1: the first word of a sector. -/
def sectorBase (sector : Nat) : Nat := sector * Config.sectorWords

/-- R132: the number of words of a burst. -/
def burstWords : BurstLength → Nat
  | .one => 1
  | .four => 4
  | .eight => 8
  | .sixteen => 16

/-- The number of a device, as responses carry it (12.2). -/
def devNumber : Dev → Nat
  | .dev0 => 0
  | .dev1 => 1

/-- The device a number names. -/
def devOfNumber : Nat → Option Dev
  | 0 => some .dev0
  | 1 => some .dev1
  | _ => none

end Sys2Proof.Machine
end

