-- ==== Sys2Proof/Machine/Operands.lean ====
section
/-! DEFINITION. Every layout seen outside the part: the check value (R2), argument bytes and payloads (R209, R210,
12.2, 12.3). -/

namespace Sys2Proof.Machine

/-- One bit of the check value: shift left and, when a 1 leaves, add x^12 + x^5 + 1 (R2). -/
def crcShift (c : Word) : Word := if c.msb then (c <<< 1) ^^^ 0x1021 else c <<< 1

/-- R2: a byte enters the check value most significant bit first. -/
def crcByte (c : Word) (b : Byte) : Word :=
  crcShift (crcShift (crcShift (crcShift (crcShift (crcShift (crcShift (crcShift
    (c ^^^ ((b.setWidth 16) <<< 8)))))))))

/-- R2: the initial value. -/
def crcInit : Word := 0xFFFF

/-- R2: the check value over bytes, in the order in which they travel. -/
def crcBytes (l : List Byte) : Word := l.foldl crcByte crcInit

/-- R2: a word enters high byte first. -/
def crcWord (c : Word) (w : Word) : Word := crcByte (crcByte c (w.extractLsb' 8 8)) (w.extractLsb' 0 8)

/-- R2: the check value over words, in ascending order. -/
def crcWords (l : List Word) : Word := l.foldl crcWord crcInit

/-- 0.4.4: bytes as an unsigned number, most significant byte first. -/
def beNat (l : List Byte) : Nat := l.foldl (fun n b => n * 256 + b.toNat) 0

def be8 (n : Nat) : List Byte := [BitVec.ofNat 8 n]
def be16 (n : Nat) : List Byte := [BitVec.ofNat 8 (n / 256), BitVec.ofNat 8 n]
def be32 (n : Nat) : List Byte :=
  [BitVec.ofNat 8 (n / 16777216), BitVec.ofNat 8 (n / 65536), BitVec.ofNat 8 (n / 256), BitVec.ofNat 8 n]

/-- The argument field of `n` bytes that begins at byte `i`, as an unsigned number (R210). -/
def argField (args : List Byte) (i n : Nat) : Nat := beNat ((args.drop i).take n)

def boolNat (b : Bool) : Nat := if b then 1 else 0

/-- R210: a yes, on or enabled value is carried as 1 and its opposite as 0. -/
def natBool : Nat → Option Bool
  | 0 => some false
  | 1 => some true
  | _ => none

/-- R209: the status codes. -/
def statusCode : RespStatus → Nat
  | .ok => 0
  | .busy => 1
  | .badFrame => 2
  | .badCommand => 3
  | .badArg => 4
  | .refusedLive => 5
  | .refusedState => 6
  | .notReady => 7

/-- R196: a response on the wire. -/
def Response.bytes (r : Response) : List Byte :=
  let body := r.tag :: be8 (statusCode r.status) ++ be16 r.payload.length ++ r.payload
  0xA7 :: body ++ be16 (crcBytes body).toNat

/-- R187: the bytes of a request frame that the check value covers, from the command code to the last argument. -/
def frameBody (code tag : Byte) (args : List Byte) : List Byte := code :: tag :: be16 args.length ++ args

/-- R187: a request frame on the wire. -/
def frameBytes (code tag : Byte) (args : List Byte) : List Byte :=
  0xA6 :: frameBody code tag args ++ be16 (crcBytes (frameBody code tag args)).toNat

/-- R209: the command codes. -/
def codeGetIdentity : Byte := 0x01
def codeGetStatus : Byte := 0x02
def codeSoftReset : Byte := 0x03
def codeReadEntry : Byte := 0x10
def codeStageEntry : Byte := 0x11
def codeClearStaged : Byte := 0x12
def codeCopyActive : Byte := 0x13
def codeCommit : Byte := 0x14
def codeCancelCommit : Byte := 0x15
def codeSetStorePointer : Byte := 0x20
def codeWriteStore : Byte := 0x21
def codeReadStore : Byte := 0x22
def codeFill : Byte := 0x23
def codeAbortFill : Byte := 0x24
def codeReadTracker : Byte := 0x30
def codeSetLock : Byte := 0x40
def codeReadLocks : Byte := 0x41
def codeSetPolicy : Byte := 0x50
def codeReadPolicy : Byte := 0x51
def codePopNotices : Byte := 0x60
def codeReadTallies : Byte := 0x61
def codeClearTallies : Byte := 0x62
def codeSetNoticeEnable : Byte := 0x63

/-- R209: the codes assigned to a command. -/
def knownCodes : List Byte :=
  [codeGetIdentity, codeGetStatus, codeSoftReset, codeReadEntry, codeStageEntry, codeClearStaged, codeCopyActive,
   codeCommit, codeCancelCommit, codeSetStorePointer, codeWriteStore, codeReadStore, codeFill, codeAbortFill,
   codeReadTracker, codeSetLock, codeReadLocks, codeSetPolicy, codeReadPolicy, codePopNotices, codeReadTallies,
   codeClearTallies, codeSetNoticeEnable]

/-! ### Entry records (12.2) -/

def maskSlot : Nat := 1
def maskFollow : Nat := 2
def maskCheck : Nat := 4
def maskFillWord : Nat := 8

/-- 12.2: the fields of STAGE_ENTRY as carried. -/
structure EntryArgs where
  index : Nat
  mode : Nat
  firstLine : Nat
  lineCount : Nat
  mask : Nat
  slot : Nat
  follow : Nat
  check : Nat
  fillWord : Nat
  deriving DecidableEq, Repr

def EntryArgs.ofBytes (args : List Byte) : EntryArgs :=
  { index := argField args 0 1, mode := argField args 1 1, firstLine := argField args 2 4,
    lineCount := argField args 6 2, mask := argField args 8 1, slot := argField args 9 2,
    follow := argField args 11 1, check := argField args 12 2, fillWord := argField args 14 2 }

def EntryArgs.has (a : EntryArgs) (bit : Nat) : Bool := a.mask / bit % 2 == 1

/-- R210: the form of an entry record: no mask bit outside the four assigned, and 0 in a field whose mask bit is clear. -/
def EntryArgs.wellFormed (a : EntryArgs) : Bool :=
  decide (a.mask < 16) && (a.has maskSlot || a.slot == 0) && (a.has maskFollow || a.follow == 0)
    && (a.has maskCheck || a.check == 0) && (a.has maskFillWord || a.fillWord == 0)

/-- R30: the checks of STAGE_ENTRY in their order, and the entry staged when they pass. -/
def EntryArgs.entry (a : EntryArgs) : Option Entry :=
  if a.index > 63 then none
  else if a.mode = 0 ∨ a.mode > 3 then none
  else if a.firstLine > 2097151 then none
  else if a.lineCount = 0 ∨ a.lineCount > 256 then none
  else if a.mode = 1 then
    if ¬ (a.has maskSlot ∧ a.has maskFollow) then none
    else if a.has maskFillWord then none
    else if a.slot > 2047 then none
    else match natBool a.follow with
      | none => none
      | some f =>
        let check := if a.has maskCheck then some (BitVec.ofNat 16 a.check) else none
        some { firstLine := a.firstLine, lineCount := a.lineCount, mode := .replace a.slot f check }
  else if a.mode = 2 then
    if ¬ a.has maskFillWord then none
    else if a.has maskSlot ∨ a.has maskFollow ∨ a.has maskCheck then none
    else some { firstLine := a.firstLine, lineCount := a.lineCount, mode := .blank (BitVec.ofNat 16 a.fillWord) }
  else if a.mask ≠ 0 then none
  else some { firstLine := a.firstLine, lineCount := a.lineCount, mode := .trap }

/-- 12.2: a present entry record of READ_ENTRY, from the mode byte to fill_word. -/
def entryBytes (e : Entry) : List Byte :=
  match e.mode with
  | .replace slot follow check =>
    be8 1 ++ be32 e.firstLine ++ be16 e.lineCount
      ++ be8 (maskSlot + maskFollow + (if check.isSome then maskCheck else 0))
      ++ be16 slot ++ be8 (boolNat follow) ++ be16 (check.getD 0).toNat ++ be16 0
  | .blank w =>
    be8 2 ++ be32 e.firstLine ++ be16 e.lineCount ++ be8 maskFillWord ++ be16 0 ++ be8 0 ++ be16 0 ++ be16 w.toNat
  | .trap =>
    be8 3 ++ be32 e.firstLine ++ be16 e.lineCount ++ be8 0 ++ be16 0 ++ be8 0 ++ be16 0 ++ be16 0

/-! ### Policies, locks, notices (12.1, 12.2) -/

def MissPolicy.code : MissPolicy → Nat
  | .stall => 0
  | .pass => 1

def missPolicyOf : Nat → Option MissPolicy
  | 0 => some .stall
  | 1 => some .pass
  | _ => none

/-- R107, R172: the eight policy fields, refused when one is out of its range. -/
def policyOf (miss auto budget idle minRun holdMax stall fault : Nat) : Option Policy :=
  match missPolicyOf miss with
  | none => none
  | some m =>
    match natBool auto with
    | none => none
    | some a =>
      if budget > 15 then none
      else if idle < 10 ∨ idle > 1000 then none
      else if minRun > 5000 then none
      else if holdMax < 100 ∨ holdMax > 10000 then none
      else if stall < 100 ∨ stall > 50000 then none
      else some { missPolicy := m, autoSuspend := a, budget := budget, resumeIdle := idle, minRun := minRun,
                  holdMax := holdMax, stallTimeout := stall, faultWord := BitVec.ofNat 16 fault }

/-- 12.1: the policy fields of SET_POLICY, after the device byte. -/
def policyOfArgs (args : List Byte) : Option Policy :=
  policyOf (argField args 1 1) (argField args 2 1) (argField args 3 1) (argField args 4 2) (argField args 6 2)
    (argField args 8 2) (argField args 10 2) (argField args 12 2)

/-- 12.1: the 13 bytes of a policy. -/
def policyBytes (p : Policy) : List Byte :=
  be8 p.missPolicy.code ++ be8 (boolNat p.autoSuspend) ++ be8 p.budget ++ be16 p.resumeIdle ++ be16 p.minRun
    ++ be16 p.holdMax ++ be16 p.stallTimeout ++ be16 p.faultWord.toNat

def Lock.code : Lock → Nat
  | .opened => 0
  | .locked => 1
  | .frozen => 2

def lockOf : Nat → Option Lock
  | 0 => some .opened
  | 1 => some .locked
  | 2 => some .frozen
  | _ => none

/-- 12.2: the kind codes run from 0 to 17 in the order of R154. -/
def NoticeKind.code : NoticeKind → Nat
  | .guardRefused => 0
  | .sequenceRefused => 1
  | .shadowedWrite => 2
  | .stallTimeout => 3
  | .opDone => 4
  | .opFailed => 5
  | .suspendFailed => 6
  | .budgetSpent => 7
  | .trapHit => 8
  | .fillDone => 9
  | .fillFailed => 10
  | .commitTaken => 11
  | .commitRejected => 12
  | .commitExpired => 13
  | .commitCancelled => 14
  | .loadDone => 15
  | .loadError => 16
  | .hostReset => 17

/-- 12.2: a notice record of POP_NOTICES, 16 bytes; an absent field is sent as 0. -/
def noticeBytes (n : Notice) : List Byte :=
  be16 n.sequence.toNat ++ be8 n.kind.code
    ++ be8 ((if n.device.isSome then 1 else 0) + (if n.address.isSome then 2 else 0) + (if n.entry.isSome then 4 else 0))
    ++ be8 ((n.device.map devNumber).getD 0) ++ be8 (n.entry.getD 0) ++ be32 (n.address.getD 0)
    ++ be32 n.time.toNat ++ be16 n.detail.toNat

/-- R164: the enable set a SET_NOTICE_ENABLE carries, refused when a byte is neither 0 nor 1. -/
def enableOfArgs (args : List Byte) : Option (Vector Bool 18) :=
  if args.all (fun b => b == 0 || b == 1) then some (Vector.ofFn fun i : Fin 18 => args.getD i.val 0 == 1) else none

/-! ### Status payloads (12.3) -/

/-- 12.3: the tracker states are coded 0 to 10 in the order of R69. -/
def Record.code : Record → Nat
  | .probe => 0
  | .absent => 1
  | .array => 2
  | .heldProgram _ => 3
  | .heldErase _ => 4
  | .status _ => 5
  | .refused _ => 6
  | .busyProgram .. => 7
  | .busyErase .. => 8
  | .suspending .. => 9
  | .suspended .. => 10

/-- R69: the command sector, in the six states that have one. -/
def Record.commandSector : Record → Option Nat
  | .status x => some x
  | .refused x => some x
  | .busyProgram x _ _ => some x
  | .busyErase x _ _ => some x
  | .suspending x _ _ _ _ => some x
  | .suspended x _ _ _ _ => some x
  | _ => none

/-- R69: the fields of the erase operation, where present. -/
def Record.erase : Record → Option EraseFields
  | .busyErase _ _ e => e
  | .suspending _ _ _ _ e => e
  | .suspended _ _ _ _ e => e
  | _ => none

/-- R69: the target word address, where present. -/
def Record.target : Record → Option Nat
  | .busyProgram _ t _ => some t
  | .busyErase _ t _ => some t
  | .suspending _ t _ _ _ => some t
  | .suspended _ t _ _ _ => some t
  | _ => none

/-- R69: the held command's kind (PROGRAM 1, ERASE 2) and address, where present. -/
def Record.held : Record → Option (Nat × Nat)
  | .heldProgram a => some (1, a)
  | .heldErase a => some (2, a)
  | _ => none

/-- R69: the program data, where present. -/
def Record.data : Record → Option Word
  | .busyProgram _ _ w => some w
  | _ => none

/-- R69: the suspension owner and pending-resume, where present. -/
def Record.suspension : Record → Option (Owner × Bool)
  | .suspending _ _ o p _ => some (o, p)
  | .suspended _ _ o p _ => some (o, p)
  | _ => none

def Owner.code : Owner → Nat
  | .part => 1
  | .host => 2

/-- 12.3: the READ_TRACKER record, 21 bytes; bits 0 to 9 of the presence mask stand for the fields in order. -/
def recordBytes (r : Record) : List Byte :=
  let bit (b : Bool) (n : Nat) : Nat := if b then n else 0
  let mask := bit r.commandSector.isSome 1 + bit r.held.isSome 2 + bit r.held.isSome 4 + bit r.target.isSome 8
    + bit r.data.isSome 16 + bit r.suspension.isSome 32 + bit r.suspension.isSome 64 + bit r.erase.isSome 128
    + bit r.erase.isSome 256 + bit r.erase.isSome 512
  be8 r.code ++ be16 mask ++ be16 (r.commandSector.getD 0) ++ be8 ((r.held.map (·.1)).getD 0)
    ++ be32 ((r.held.map (·.2)).getD 0) ++ be32 (r.target.getD 0) ++ be16 (r.data.getD 0).toNat
    ++ be8 ((r.suspension.map (·.1.code)).getD 0) ++ be8 ((r.suspension.map (boolNat ·.2)).getD 0)
    ++ be8 ((r.erase.map (·.count)).getD 0) ++ be8 ((r.erase.map (·.snapshot)).getD 0)
    ++ be8 ((r.erase.map (boolNat ·.disabled)).getD 0)

def Commit.code : Commit → Nat
  | .idle => 0
  | .verifying .. => 1
  | .pendingBoundary _ => 2
  | .pendingMark .. => 3

def LoaderState.code : LoaderState → Nat
  | .idle => 0
  | .waiting .. => 1
  | .reading .. => 2
  | .applying .. => 3
  | .committing .. => 4

/-- R201: the GET_STATUS summary, 15 bytes (12.3); an absent suspend count is sent as 0xFF. -/
def summaryBytes (s : State) : List Byte :=
  let count (d : Dev) : Nat := ((s.tracker.get d).record.erase.map (·.count)).getD 255
  be8 s.commit.code ++ be16 s.generation.toNat ++ be8 (boolNat s.fill.job.isSome) ++ be16 s.fill.progress
    ++ be8 s.loader.state.code ++ be8 s.notices.queue.length ++ be8 (s.tracker.get .dev0).record.code
    ++ be8 (s.tracker.get .dev1).record.code ++ be8 (count .dev0) ++ be8 (count .dev1) ++ be16 s.ptr.slot
    ++ be8 s.ptr.offset

end Sys2Proof.Machine
end

