-- ==== Sys2Proof/WellFormed.lean ====
section
/-! DEFINITION. The commands the part can be sent: a request's arguments fit a frame (R187), and BAD_COMMAND carries a
code that Formats assigns to nothing (R192, R209). Every other operand is in range by its type. -/

namespace Sys2Proof

open Machine

/-- R187: the argument length is 0 to 1,024. -/
def argsFit (args : List Byte) : Bool := decide (args.length ≤ Config.argumentLimit)

/-- The check of each command's operands. -/
def Instr.wellFormed : Instr → Bool
  | .powerOnReset .. => true
  | .hostReset => true
  | .hrstNRelease => true
  | .hostRead .. => true
  | .hostWrite .. => true
  | .lselNDeasserted => true
  | .badFrame .. => true
  | .badCommand code _ args => argsFit args && !knownCodes.contains code
  | .getIdentity _ args => argsFit args
  | .getStatus _ args => argsFit args
  | .clearOverlay => true
  | .clearNotices => true
  | .defaultPolicies => true
  | .reload => true
  | .readEntry _ args => argsFit args
  | .stageEntry _ args => argsFit args
  | .clearStaged _ args => argsFit args
  | .copyActive _ args => argsFit args
  | .commit _ args => argsFit args
  | .cancelCommit _ args => argsFit args
  | .setStorePointer _ args => argsFit args
  | .writeStore _ args => argsFit args
  | .readStore _ args => argsFit args
  | .fill _ args => argsFit args
  | .abortFill _ args => argsFit args
  | .readTracker _ args => argsFit args
  | .setLock _ args => argsFit args
  | .readLocks _ args => argsFit args
  | .setPolicy _ args => argsFit args
  | .readPolicy _ args => argsFit args
  | .popNotices _ args => argsFit args
  | .readTallies _ args => argsFit args
  | .clearTallies _ args => argsFit args
  | .setNoticeEnable _ args => argsFit args
  | .readyLineRises _ => true
  | .readyLineFalls _ => true
  | .memoryFaceGrant _ => true
  | .memoryTransactionEnds _ => true
  | .storePortAccess => true
  | .stallTimeout => true
  | .suspendTimeout _ => true
  | .minRunElapses => true
  | .resumeIdleTimerExpires _ => true
  | .holdMaxTimerExpires _ => true
  | .commitExpired => true
  | .probeTimeout => true
  | .loadBegins => true
  | .softReset _ args => argsFit args
  | .startByteReceived => true
  | .responseTaken => true

end Sys2Proof
end

