-- ==== Sys2Proof/Decode.lean ====
section
/-! DEFINITION. No row of spec/opcode_table.json gives bits, so no word spells a command. What travels on the wire is the
request frame (R187): its encoder and its decoder are here too. -/

namespace Sys2Proof

open Machine

/-- The command a word spells by the table's bits: no row gives bits. -/
def decodeTableWord (_nbits _w : Nat) : Option Instr := none

/-- R209: the code of a request; the other commands are no frames. -/
def Instr.request : Instr → Option (Byte × Byte × List Byte)
  | .badCommand code tag args => some (code, tag, args)
  | .getIdentity tag args => some (codeGetIdentity, tag, args)
  | .getStatus tag args => some (codeGetStatus, tag, args)
  | .softReset tag args => some (codeSoftReset, tag, args)
  | .readEntry tag args => some (codeReadEntry, tag, args)
  | .stageEntry tag args => some (codeStageEntry, tag, args)
  | .clearStaged tag args => some (codeClearStaged, tag, args)
  | .copyActive tag args => some (codeCopyActive, tag, args)
  | .commit tag args => some (codeCommit, tag, args)
  | .cancelCommit tag args => some (codeCancelCommit, tag, args)
  | .setStorePointer tag args => some (codeSetStorePointer, tag, args)
  | .writeStore tag args => some (codeWriteStore, tag, args)
  | .readStore tag args => some (codeReadStore, tag, args)
  | .fill tag args => some (codeFill, tag, args)
  | .abortFill tag args => some (codeAbortFill, tag, args)
  | .readTracker tag args => some (codeReadTracker, tag, args)
  | .setLock tag args => some (codeSetLock, tag, args)
  | .readLocks tag args => some (codeReadLocks, tag, args)
  | .setPolicy tag args => some (codeSetPolicy, tag, args)
  | .readPolicy tag args => some (codeReadPolicy, tag, args)
  | .popNotices tag args => some (codePopNotices, tag, args)
  | .readTallies tag args => some (codeReadTallies, tag, args)
  | .clearTallies tag args => some (codeClearTallies, tag, args)
  | .setNoticeEnable tag args => some (codeSetNoticeEnable, tag, args)
  | _ => none

/-- R209: the request a code names; a code assigned to nothing is a BAD_COMMAND. -/
def requestOf (code tag : Byte) (args : List Byte) : Instr :=
  if code = codeGetIdentity then .getIdentity tag args
  else if code = codeGetStatus then .getStatus tag args
  else if code = codeSoftReset then .softReset tag args
  else if code = codeReadEntry then .readEntry tag args
  else if code = codeStageEntry then .stageEntry tag args
  else if code = codeClearStaged then .clearStaged tag args
  else if code = codeCopyActive then .copyActive tag args
  else if code = codeCommit then .commit tag args
  else if code = codeCancelCommit then .cancelCommit tag args
  else if code = codeSetStorePointer then .setStorePointer tag args
  else if code = codeWriteStore then .writeStore tag args
  else if code = codeReadStore then .readStore tag args
  else if code = codeFill then .fill tag args
  else if code = codeAbortFill then .abortFill tag args
  else if code = codeReadTracker then .readTracker tag args
  else if code = codeSetLock then .setLock tag args
  else if code = codeReadLocks then .readLocks tag args
  else if code = codeSetPolicy then .setPolicy tag args
  else if code = codeReadPolicy then .readPolicy tag args
  else if code = codePopNotices then .popNotices tag args
  else if code = codeReadTallies then .readTallies tag args
  else if code = codeClearTallies then .clearTallies tag args
  else if code = codeSetNoticeEnable then .setNoticeEnable tag args
  else .badCommand code tag args

/-- R187, R196: a request on the wire, from its start byte to its check value. -/
def encodeRequest (i : Instr) : Option (List Byte) := i.request.map fun x => frameBytes x.1 x.2.1 x.2.2

/-- R187, R188, R192: the row a whole frame's bytes are: a request, or BAD_FRAME when the check value differs or the
argument length is above 1,024 (where the frame ends after its length bytes). None when they are not one whole frame. -/
def decodeFrame : List Byte → Option Instr
  | start :: code :: tag :: hi :: lo :: rest =>
    if start ≠ 0xA6 then none
    else
      let n := beNat [hi, lo]
      if n > Config.argumentLimit then
        if rest = [] then some (.badFrame tag .argumentLength) else none
      else if rest.length ≠ n + 2 then none
      else
        let args := rest.take n
        if be16 (crcBytes (code :: tag :: hi :: lo :: args)).toNat = rest.drop n then some (requestOf code tag args)
        else some (.badFrame tag .checkMismatch)
  | _ => none

end Sys2Proof
end

