-- ==== Sys2Proof/Machine/Ops.lean ====
section
/-! DEFINITION. The shared operations: notices (R153 to R160), bank lookups, liveness and the store (R48 to R51), the
switch (R38), and the raising of memory face requests (R147). -/

namespace Sys2Proof.Machine

/-- R3: the time base, 32 bits, wrapping. -/
def timeBase (s : State) : BitVec 32 := BitVec.ofNat 32 s.clock

/-- Time runs on to `t` when it is not yet there (log 3). -/
def runTo (t : Nat) (s : State) : State := { s with clock := max s.clock t }

/-- A saturating count: a count at `cap` stays there (R14, R159). -/
def satInc (cap n : Nat) : Nat := if n < cap then n + 1 else n

/-- 0.4.2: whether a device is installed. -/
def installed (s : State) : Dev → Bool
  | .dev0 => true
  | .dev1 => s.straps.twoDevices

/-! ### Notices -/

/-- R153: what the posting block supplies. -/
structure Posting where
  kind : NoticeKind
  device : Option Dev
  address : Option Nat
  entry : Option Nat
  detail : Word
  deriving DecidableEq, Repr

/-- R156, R157, R159: a posting is queued and tallied, tallied only, or dropped. -/
def NoticeUnit.post (n : NoticeUnit) (time : BitVec 32) (p : Posting) : NoticeUnit :=
  let k := p.kind.code
  let n := { n with tally := n.tally.setIfInBounds k (satInc 255 ((n.tally[k]?).getD 0)) }
  if ((n.enabled[k]?).getD false) = false then n
  else if n.queue.length < Config.queueLimit then
    { n with
      queue := n.queue ++ [{ sequence := n.next, kind := p.kind, device := p.device, time := time, address := p.address,
                             entry := p.entry, detail := p.detail }]
      next := n.next + 1 }
  else { n with overflow := satInc 255 n.overflow }

/-- R156: the notice unit takes a posting at the present time base. -/
def post (p : Posting) (s : State) : State := { s with notices := s.notices.post (timeBase s) p }

/-- R160: INC_N is asserted while the queue holds records. -/
def incN (s : State) : Bool := !s.notices.queue.isEmpty

/-! ### Banks -/

/-- R4: an entry covers the lines from first_line on, line_count of them. -/
def Entry.covers (e : Entry) (line : Nat) : Bool := decide (e.firstLine ≤ line ∧ line < e.firstLine + e.lineCount)

/-- R5: the slots a REPLACE entry references, first and number; none for BLANK and TRAP. -/
def Entry.slotRun (e : Entry) : Option (Nat × Nat) :=
  match e.mode with
  | .replace slot _ _ => some (slot, e.lineCount)
  | _ => none

/-- R49: an entry references a slot. -/
def Entry.references (e : Entry) (slot : Nat) : Bool :=
  match e.slotRun with
  | some (first, n) => decide (first ≤ slot ∧ slot < first + n)
  | none => false

/-- 1.1: an entry intersects a sector when it covers at least one of its lines. -/
def Entry.intersects (e : Entry) (sector : Nat) : Bool :=
  decide (e.firstLine < (sector + 1) * Config.sectorLines ∧ sector * Config.sectorLines < e.firstLine + e.lineCount)

/-- The present values of a list of positions, each with its position, in ascending order. -/
def presentFrom {α : Type} : Nat → List (Option α) → List (Nat × α)
  | _, [] => []
  | i, none :: rest => presentFrom (i + 1) rest
  | i, some a :: rest => (i, a) :: presentFrom (i + 1) rest

/-- R4: the present entries of the STAGED bank with their positions, ascending. -/
def stagedEntries (b : StagedBank) : List (Nat × Entry) := presentFrom 0 b.toList

/-- R4: the present entries of the ACTIVE bank with their positions, ascending. -/
def activeEntries (b : ActiveBank) : List (Nat × Entry) := (presentFrom 0 b.toList).map fun p => (p.1, p.2.entry)

/-- R4: the entry of a STAGED position. -/
def stagedAt (b : StagedBank) (i : Nat) : Option Entry := (b[i]?).join

/-- R4: the entry of an ACTIVE position. -/
def activeAt (b : ActiveBank) (i : Nat) : Option ActiveEntry := (b[i]?).join

/-- R9: the ACTIVE entry that covers a line, with its position. -/
def lookup (b : ActiveBank) (line : Nat) : Option (Nat × Entry) := (activeEntries b).find? fun p => p.2.covers line

/-- R49: a slot is live while a present REPLACE entry of the ACTIVE bank references it. -/
def live (s : State) (slot : Nat) : Bool := (activeEntries s.active).any fun p => p.2.references slot

/-- R46: a slot is staged-protected while a commit is in flight and a STAGED entry references it. -/
def stagedProtected (s : State) (slot : Nat) : Bool :=
  decide (s.commit ≠ .idle) && (stagedEntries s.staged).any fun p => p.2.references slot

/-! ### The overlay store -/

/-- R48: what a store word that no cell lists reads as, the value the power-on clear gives every word. -/
def Store.blankWord : Word := Config.erasedWord

/-- R50: a read returns the value the word holds. -/
def Store.read : Store → Nat → Word
  | [], _ => Store.blankWord
  | (b, w) :: rest, a => if a = b then w else Store.read rest a

/-- The cells with address `a` left out. -/
def Store.erase (m : Store) (a : Nat) : Store := m.filter fun c => c.1 ≠ a

/-- The cells with one more, placed by its address. -/
def Store.insert (a : Nat) (w : Word) : Store → Store
  | [] => [(a, w)]
  | (b, v) :: rest => if a < b then (a, w) :: (b, v) :: rest else (b, v) :: Store.insert a w rest

/-- R50: a write replaces the value of one word; the canonical form is kept. -/
def Store.write (m : Store) (a : Nat) (w : Word) : Store :=
  if w = Store.blankWord then m.erase a else (m.erase a).insert a w

/-- The canonical form: addresses strictly rising and no cell equal to what an unlisted word reads as. -/
def Store.wf (m : Store) : Bool :=
  decide (m.Pairwise fun c d => c.1 < d.1) && m.all fun c => decide (c.2 ≠ Store.blankWord)

/-- R48: the store word address of a slot's word. -/
def storeAddr (slot offset : Nat) : Nat := slot * Config.lineWords + offset

/-- R51: why the store port refuses a write that is not a follow write, if it does. -/
def portRefusal (s : State) (slot : Nat) : Option RespStatus :=
  if live s slot then some .refusedLive
  else if stagedProtected s slot then some .refusedState
  else none

/-- R50: a write taken at the port. -/
def storeWrite (slot offset : Nat) (w : Word) (s : State) : State :=
  { s with store := s.store.write (storeAddr slot offset) w }

/-- R50: a read taken at the port. -/
def storeRead (s : State) (slot offset : Nat) : Word := s.store.read (storeAddr slot offset)

/-- R52: the end of store. -/
def StorePtr.atEnd (p : StorePtr) : Bool := p.slot == Config.slots

/-- R53: the pointer advances by one word. -/
def StorePtr.next (p : StorePtr) : StorePtr :=
  if p.offset < 15 then { p with offset := p.offset + 1 } else { slot := p.slot + 1, offset := 0 }

/-! ### The switch -/

/-- R38: the ACTIVE bank becomes a copy of the STAGED bank, every hit count 0, the generation one higher, COMMIT_TAKEN
posted with it, and the commit unit IDLE. -/
def switchBanks (s : State) : State :=
  let g := s.generation + 1
  post { kind := .commitTaken, device := none, address := none, entry := none, detail := g }
    { s with
      active := s.staged.map fun e => e.map fun e => { entry := e, hitCount := 0 }
      generation := g
      commit := .idle }

/-- R4: every position of the STAGED bank absent. -/
def emptyStaged (s : State) : State := { s with staged := Vector.replicate 64 none }

/-! ### Records and requests -/

/-- The tracker of device `d` changed by `f`. -/
def modTracker (d : Dev) (f : Tracker → Tracker) (s : State) : State :=
  { s with tracker := s.tracker.set d (f (s.tracker.get d)) }

/-- The record of device `d` replaced. -/
def setRecord (d : Dev) (r : Record) (s : State) : State := modTracker d (fun t => { t with record := r }) s

/-- The suspend controller of device `d` changed by `f`. -/
def modController (d : Dev) (f : Controller → Controller) (s : State) : State :=
  { s with controller := s.controller.set d (f (s.controller.get d)) }

/-- R145: the device of a host path transaction. -/
def HostTxn.dev : HostTxn → Dev
  | .read a _ _ _ => devOf a
  | .write a _ => devOf a
  | .pair a _ _ _ => devOf a

/-- R145: the device of the transaction on the bus. -/
def BusTxn.dev : BusTxn → Dev
  | .service d _ _ => d
  | .host t => t.dev
  | .loader a _ => devOf a
  | .fill a => devOf a

/-- R147: the host path transactions of a device that wait. -/
def hostWaiting (s : State) (d : Dev) : Nat := s.hostPath.countP fun t => t.dev == d

/-- R147, R148: a tracker service request is raised behind the host path transactions of its device that wait now. -/
def raiseService (d : Dev) (work : ServiceWork) (addr : Nat) (s : State) : State :=
  { s with service := s.service.set d (some { work := work, addr := addr, behind := hostWaiting s d }) }

/-- A tracker service request is taken back. -/
def clearService (d : Dev) (s : State) : State := { s with service := s.service.set d none }

/-- R120, R151: a SUSPEND request not yet forwarded is withdrawn. -/
def withdrawSuspend (d : Dev) (s : State) : State :=
  match s.service.get d with
  | some { work := .suspend, .. } => clearService d s
  | _ => s

/-- R126, R151: a RESUME request of the suspend controller not yet forwarded is withdrawn. -/
def withdrawResume (d : Dev) (s : State) : State :=
  match s.service.get d with
  | some { work := .resume .timers, .. } => clearService d s
  | _ => s

/-- R147: a transaction is put at the end of the host path list. -/
def raiseHost (t : HostTxn) (s : State) : State := { s with hostPath := s.hostPath ++ [t] }

/-- R58, R150: whether a line may be read by the fill engine and the loader, by the record of its device. -/
def readable (s : State) (line : Nat) : Bool :=
  match (s.tracker.get (devOfLine line)).record with
  | .array => true
  | .heldProgram _ => true
  | .heldErase _ => true
  | .status x => decide (sectorOfLine line ≠ x)
  | .refused x => decide (sectorOfLine line ≠ x)
  | _ => false

/-- R137: the wait line is asserted for the transaction present. -/
def waitLine (s : State) : Bool := decide (s.host.transaction ≠ .none)

/-- 2.6: a host read is in progress from its taking to its completion or drop. -/
def readInProgress (s : State) : Bool :=
  match s.host.transaction with
  | .read _ => true
  | _ => false

/-- R129: the transaction field replaced. -/
def setTransaction (t : Transaction) (s : State) : State := { s with host := { s.host with transaction := t } }

/-- R128, R119: the controller's state for a device lapses when the erase operation ends. -/
def lapseController (d : Dev) (s : State) : State := modController d (fun _ => Controller.lapsed) s

end Sys2Proof.Machine
end

