-- ==== Sys2Proof/Machine/CommitUnit.lean ====
section
/-! DEFINITION. The commit unit (02_staging_and_commit.md): validation, verification, the wait for the boundary or the
mark, cancellation, and the requests that edit the STAGED bank. -/

namespace Sys2Proof.Machine

/-! ### Validation (R35) -/

/-- 12.2: the details of COMMIT_REJECTED. -/
def detailOverlapLines : Word := 1
def detailOverlapSlots : Word := 2
def detailSlotRange : Word := 3
def detailLineRange : Word := 4
def detailCheckMismatch : Word := 5

/-- R35: a failure of validation: the reason, the position and the notice address. -/
structure Rejection where
  detail : Word
  position : Nat
  address : Option Nat
  deriving DecidableEq, Repr

/-- R35, check 1: the entry's lines leave the address space, cross the devices, or lie in an absent device. -/
def lineRangeFails (twoDevices : Bool) (e : Entry) : Bool :=
  decide (e.firstLine + e.lineCount > Config.lines)
    || (e.covers (Config.deviceLines - 1) && e.covers Config.deviceLines)
    || (!twoDevices && decide (e.firstLine + e.lineCount > Config.deviceLines))

/-- R35, check 2: the entry's slots leave the store. -/
def slotRangeFails (e : Entry) : Bool :=
  match e.slotRun with
  | some (slot, n) => decide (slot + n > Config.slots)
  | none => false

/-- Two runs of numbers, each a first and a length, share a number. -/
def runsMeet (a n b m : Nat) : Bool := decide (max a b < min (a + n) (b + m))

/-- R35, check 3: two entries cover a common line. -/
def linesMeet (p q : Entry) : Bool := runsMeet p.firstLine p.lineCount q.firstLine q.lineCount

/-- R35, check 4: two REPLACE entries reference a common slot. -/
def slotsMeet (p q : Entry) : Bool :=
  match p.slotRun, q.slotRun with
  | some (a, n), some (b, m) => runsMeet a n b m
  | _, _ => false

/-- R35: the first failure of position `p`, against the lower present positions `lower` in ascending order. -/
def entryFailure (twoDevices : Bool) (lower : List (Nat × Entry)) (i : Nat) (p : Entry) : Option Rejection :=
  if lineRangeFails twoDevices p then some { detail := detailLineRange, position := i, address := some p.firstLine }
  else if slotRangeFails p then some { detail := detailSlotRange, position := i, address := none }
  else match lower.find? fun q => linesMeet p q.2 with
    | some q =>
      some { detail := detailOverlapLines, position := i, address := some (max p.firstLine q.2.firstLine) }
    | none =>
      if lower.any fun q => slotsMeet p q.2 then
        some { detail := detailOverlapSlots, position := i, address := none }
      else none

/-- R35: the first failure of the positions still to come, in ascending order. -/
def validateFrom (twoDevices : Bool) : List (Nat × Entry) → List (Nat × Entry) → Option Rejection
  | _, [] => none
  | lower, (i, p) :: rest =>
    match entryFailure twoDevices lower i p with
    | some r => some r
    | none => validateFrom twoDevices (lower ++ [(i, p)]) rest

/-- R35: validation of a whole bank. -/
def validate (twoDevices : Bool) (b : StagedBank) : Option Rejection := validateFrom twoDevices [] (stagedEntries b)

/-! ### Verification and the wait (R36 to R42) -/

/-- R36: the check value a REPLACE entry carries, with the slot where its data begin. -/
def Entry.checked (e : Entry) : Option (Nat × Word) :=
  match e.mode with
  | .replace slot _ (some c) => some (slot, c)
  | _ => none

/-- R36: the lowest position from `p` on whose entry is REPLACE with a check field. -/
def nextChecked (b : StagedBank) (p : Nat) : Option Nat :=
  ((stagedEntries b).find? fun q => decide (p ≤ q.1) && q.2.checked.isSome).map (·.1)

/-- R35, R36: COMMIT_REJECTED; the unit is IDLE. -/
def rejectCommit (r : Rejection) (s : State) : State :=
  post { kind := .commitRejected, device := none, address := r.address, entry := some r.position, detail := r.detail }
    { s with commit := .idle }

/-- R37: verification has ended. An IMMEDIATE commit whose boundary is now switches at once (R40). -/
def verificationEnds (f : InFlight) (s : State) : State :=
  match f.mode with
  | .immediate =>
    if readInProgress s then { s with commit := .pendingBoundary f }
    else switchBanks { s with commit := .pendingBoundary f }
  | .atMark _ _ => { s with commit := .pendingMark f s.clock }

/-- R36: verification goes on at position `p` or ends. -/
def verifyFrom (f : InFlight) (p : Nat) (s : State) : State :=
  match nextChecked s.staged p with
  | some q => { s with commit := .verifying f { position := q, index := 0, check := crcInit } }
  | none => verificationEnds f s

/-- R34, R35, R47: an accepted commit is validated at once and, on a pass, verified. -/
def startCommit (f : InFlight) (s : State) : State :=
  match validate s.straps.twoDevices s.staged with
  | some r => rejectCommit r s
  | none => verifyFrom f 0 s

/-- R36: one verification read taken at the port. -/
def verifyWord (f : InFlight) (c : Cursor) (s : State) : State :=
  match stagedAt s.staged c.position with
  | none => verifyFrom f (c.position + 1) s
  | some e =>
    match e.checked with
    | none => verifyFrom f (c.position + 1) s
    | some (slot, want) =>
      let check := crcWord c.check (s.store.read (slot * Config.lineWords + c.index))
      if c.index + 1 < e.lineCount * Config.lineWords then
        { s with commit := .verifying f { c with index := c.index + 1, check := check } }
      else if check = want then verifyFrom f (c.position + 1) s
      else rejectCommit { detail := detailCheckMismatch, position := c.position, address := none } s

/-- 12.2: the details of COMMIT_CANCELLED. -/
def cancelRequest : Word := 1
def cancelHostReset : Word := 2
def cancelSoftReset : Word := 3

/-- R43: a commit in flight is cancelled; in IDLE nothing is done. DESIGN CHOICE (log 37): a verification access waiting at
the store port is not made (R43), although R50 has no access withdrawn. -/
def cancelCommitWith (detail : Word) (s : State) : State :=
  if s.commit = .idle then s
  else post { kind := .commitCancelled, device := none, address := none, entry := none, detail := detail }
    { s with commit := .idle }

/-- R28: the fields of the commit in flight. -/
def Commit.inFlight : Commit → Option InFlight
  | .idle => none
  | .verifying f _ => some f
  | .pendingBoundary f => some f
  | .pendingMark f _ => some f

/-- R177: when the loader's commit has ended, LOAD_DONE is posted, the loader becomes IDLE and releases the host face
(the held transaction is taken by `takeHeld`). -/
def loaderFollows (s : State) : State :=
  match s.loader.state with
  | .committing _ count =>
    if s.commit = .idle then
      let s := post { kind := .loadDone, device := some .dev0, address := none, entry := none,
                      detail := BitVec.ofNat 16 count } s
      { s with loader := { s.loader with state := .idle }, host := { s.host with loadHold := false } }
    else s
  | _ => s

/-- R135, R40, R41: the completion of a read of `line` is reported to the commit unit. -/
def reportCompletion (line : Nat) (s : State) : State :=
  match s.commit with
  | .pendingBoundary _ => loaderFollows (switchBanks s)
  | .pendingMark f _ =>
    match f.mode with
    | .atMark mark _ => if mark = line then loaderFollows (switchBanks s) else s
    | .immediate => s
  | _ => s

/-- R33: the check value of a fill is written into the target position when the unit is IDLE and the position REPLACE. -/
def updateCheck (target : Nat) (value : Word) (s : State) : State :=
  if s.commit = .idle then
    match stagedAt s.staged target with
    | some e =>
      match e.mode with
      | .replace slot follow _ =>
        { s with staged := s.staged.setIfInBounds target
                   (some { firstLine := e.firstLine, lineCount := e.lineCount, mode := .replace slot follow (some value) }) }
      | _ => s
    | none => s
  else s

/-! ### Requests -/

/-- A reply: the response's status and payload. -/
abbrev Reply := RespStatus × List Byte

/-- STAGE_ENTRY (R29, R30). -/
def cmdStageEntry (args : List Byte) (s : State) : Reply × State :=
  let a := EntryArgs.ofBytes args
  if ¬ (args.length = 16 ∧ a.wellFormed) then ((.badArg, []), s)
  else if s.commit ≠ .idle then ((.busy, []), s)
  else match a.entry with
    | none => ((.badArg, []), s)
    | some e => ((.ok, []), { s with staged := s.staged.setIfInBounds a.index (some e) })

/-- CLEAR_STAGED (R29, R31); 0xFF is ALL. -/
def cmdClearStaged (args : List Byte) (s : State) : Reply × State :=
  if args.length ≠ 1 then ((.badArg, []), s)
  else if s.commit ≠ .idle then ((.busy, []), s)
  else
    let i := argField args 0 1
    if i = 255 then ((.ok, []), emptyStaged s)
    else if i > 63 then ((.badArg, []), s)
    else ((.ok, []), { s with staged := s.staged.setIfInBounds i none })

/-- COPY_ACTIVE (R29, R32). -/
def cmdCopyActive (args : List Byte) (s : State) : Reply × State :=
  if args.length ≠ 0 then ((.badArg, []), s)
  else if s.commit ≠ .idle then ((.busy, []), s)
  else ((.ok, []), { s with staged := s.active.map fun e => e.map (·.entry) })

/-- R34, checks 3 to 6: the mode a COMMIT asks for. -/
def commitModeOf (twoDevices : Bool) (args : List Byte) : Option CommitMode :=
  let mode := argField args 0 1
  if mode = 1 then if args.length = 1 then some .immediate else none
  else if mode = 2 then
    if args.length = 7 then
      let mark := argField args 1 4
      let expiry := argField args 5 2
      if mark > 2097151 then none
      else if expiry = 0 then none
      else if ¬ twoDevices ∧ mark ≥ Config.deviceLines then none
      else some (.atMark mark expiry)
    else none
  else none

/-- COMMIT (R34). -/
def cmdCommit (args : List Byte) (s : State) : Reply × State :=
  if ¬ (args.length = 1 ∨ args.length = 7) then ((.badArg, []), s)
  else if s.commit ≠ .idle then ((.busy, []), s)
  else if s.fill.job.isSome then ((.busy, []), s)
  else match commitModeOf s.straps.twoDevices args with
    | none => ((.badArg, []), s)
    | some mode => ((.ok, []), startCommit { mode := mode, origin := .management } s)

/-- CANCEL_COMMIT (R43). -/
def cmdCancelCommit (args : List Byte) (s : State) : Reply × State :=
  if args.length ≠ 0 then ((.badArg, []), s)
  else if s.commit = .idle then ((.refusedState, []), s)
  else ((.ok, []), cancelCommitWith cancelRequest s)

/-- READ_ENTRY (R22, R23). -/
def cmdReadEntry (args : List Byte) (s : State) : Reply × State :=
  if args.length ≠ 2 then ((.badArg, []), s)
  else
    let bank := argField args 0 1
    let index := argField args 1 1
    if bank > 1 ∨ index > 63 then ((.badArg, []), s)
    else if bank = 0 then
      match activeAt s.active index with
      | none => ((.ok, be8 0), s)
      | some a => ((.ok, be8 1 ++ entryBytes a.entry ++ be32 a.hitCount ++ be16 s.generation.toNat), s)
    else
      match stagedAt s.staged index with
      | none => ((.ok, be8 0), s)
      | some e => ((.ok, be8 1 ++ entryBytes e), s)

/-- R42: the expiry period has ended. -/
def commitExpires (s : State) : State :=
  match s.commit with
  | .pendingMark f since =>
    match f.mode with
    | .atMark _ expiry =>
      post { kind := .commitExpired, device := none, address := none, entry := none, detail := 0 }
        { runTo (since + expiry * 1000) s with commit := .idle }
    | .immediate => s
  | _ => s

end Sys2Proof.Machine
end

