-- ==== Sys2Proof/Machine/Busy.lean ====
section
/-! DEFINITION. Completion of a host read (R134, R135), the busy service's decisions (R110 to R117) and the suspend
controller (R119 to R127). -/

namespace Sys2Proof.Machine

/-! ### Completion -/

/-- R14: a completed hit counts on its entry when the generation is the one it noted. -/
def countHit (r : ReadRecord) (s : State) : State :=
  match r.cls with
  | .hit position _ _ =>
    if r.generation = s.generation then
      match activeAt s.active position with
      | some a =>
        { s with active := s.active.setIfInBounds position (some { a with hitCount := satInc 4294967295 a.hitCount }) }
      | none => s
    else s
  | _ => s

/-- R135: a burst completes with `words`: the read record is given up, the hit counted, the completion reported. -/
def completeRead (r : ReadRecord) (words : List Word) (s : State) : State :=
  reportCompletion r.line
    (countHit r { s with host := { s.host with transaction := .none, dataOut := words } })

/-! ### Forwarding and stalling -/

/-- R126: a missed or TRAP burst is forwarded while a resume is called for: a RESUME request of the timers is withdrawn
and the resume_idle timer starts again; a call of the hold_max timer stays. DESIGN CHOICE (log 49): a call of resume_idle
whose request has not been raised yet is dropped like a raised one. -/
def yieldResume (d : Dev) (s : State) : State :=
  match (s.controller.get d).call with
  | none => s
  | some c =>
    modController d
      (fun k => { k with
        idleTimer := k.idleTimer.map fun _ => s.clock
        call := if c = .holdMax then some .holdMax else none })
      (withdrawResume d s)

/-- R110, R134: the read path raises the burst's read on the host path. -/
def forwardRead (r : ReadRecord) (s : State) : State :=
  let d := devOf r.addr
  let s := if r.cls = .bypass then s else yieldResume d s
  raiseHost (.read r.addr r.count (r.cls = .bypass) false)
    (setTransaction (.read { r with stage := .forwarded }) s)

/-- R116: the burst is stalled, its stall timer counting from `since`. -/
def stallRead (since : Nat) (why : StallWhy) (r : ReadRecord) (s : State) : State :=
  setTransaction (.read { r with stage := .stalled since why }) s

/-- R112: the burst falls to the miss_policy of its device. -/
def fallToPolicy (since : Nat) (r : ReadRecord) (s : State) : State :=
  match (s.policy.get (devOf r.addr)).missPolicy with
  | .stall => stallRead since .policy r s
  | .pass => forwardRead r s

/-- R113: a suspension is available. -/
def suspensionAvailable (s : State) (d : Dev) (e : EraseFields) : Bool :=
  (s.policy.get d).autoSuspend && !e.disabled && decide (e.count < e.snapshot)

/-- R113: min_run has elapsed since the last resume. -/
def minRunElapsed (s : State) (d : Dev) : Bool :=
  match (s.controller.get d).lastResume with
  | some t => decide (t + (s.policy.get d).minRun ≤ s.clock)
  | none => false

/-- R120, log 16: nothing of the tracker stands in the way of a SUSPEND request. -/
def serviceFree (s : State) (d : Dev) : Bool :=
  (s.service.get d).isNone && !(s.tracker.get d).reading && (s.tracker.get d).keptRun.isNone

/-- R114: BUDGET_SPENT on the first decision of an erase that finds the budget spent. -/
def reportBudget (r : ReadRecord) (e : EraseFields) (s : State) : State :=
  let d := devOf r.addr
  if (s.policy.get d).autoSuspend ∧ ¬ e.disabled ∧ e.count = e.snapshot ∧ ¬ (s.controller.get d).budgetReported then
    modController d (fun k => { k with budgetReported := true })
      (post { kind := .budgetSpent, device := some d, address := some r.line, entry := none, detail := 0 } s)
  else s

/-- R113: the availability decision in BUSY_ERASE. -/
def decideErase (since : Nat) (r : ReadRecord) (sector : Nat) (e : Option EraseFields) (s : State) : State :=
  let d := devOf r.addr
  match e with
  | none => fallToPolicy since r s
  | some e =>
    if suspensionAvailable s d e then
      if minRunElapsed s d ∧ serviceFree s d then
        raiseService d .suspend (sectorBase sector) (stallRead since .suspendRaised r s)
      else stallRead since .minRun r s
    else fallToPolicy since r (reportBudget r e s)

/-- R149: the record's command pair still waits on the host path list. -/
def pairWaits (s : State) (d : Dev) : Bool :=
  s.hostPath.any fun t => match t with
    | .pair a _ _ _ => devOf a == d
    | _ => false

/-- R110 to R115, R149: the miss decision. A burst of an absent device does not come here (R136, log 30). -/
def missDecision (since : Nat) (r : ReadRecord) (s : State) : State :=
  let d := devOf r.addr
  match (s.tracker.get d).record with
  | .probe => fallToPolicy since r s
  | .absent => stallRead since .policy r s
  | .busyProgram .. =>
    if pairWaits s d then setTransaction (.read { r with stage := .deferred }) s else fallToPolicy since r s
  | .busyErase sector _ e =>
    if pairWaits s d then setTransaction (.read { r with stage := .deferred }) s else decideErase since r sector e s
  | .suspending .. => stallRead since .suspending r s
  | .array => forwardRead r s
  | .heldProgram _ => forwardRead r s
  | .heldErase _ => forwardRead r s
  | .status _ => forwardRead r s
  | .refused _ => forwardRead r s
  | .suspended .. => forwardRead r s

/-- R116, R124: the stalled burst of device `d` is decided again by the state its record has entered, its stall timer
running on: released where R111 forwards a miss. -/
def resolveStalled (d : Dev) (s : State) : State :=
  match s.host.transaction with
  | .read r =>
    match r.stage with
    | .stalled since _ => if devOf r.addr = d then missDecision since r s else s
    | _ => s
  | _ => s

/-! ### Timers of the busy service -/

/-- R117: the stalled burst's stall timer reaches stall_timeout. -/
def stallTimesOut (s : State) : State :=
  match s.host.transaction with
  | .read r =>
    match r.stage with
    | .stalled since _ =>
      let d := devOf r.addr
      let p := s.policy.get d
      let entry := match r.cls with
        | .hit position _ _ => some position
        | _ => none
      let s := withdrawSuspend d (runTo (since + p.stallTimeout) s)
      completeRead r (List.replicate r.count p.faultWord)
        (post { kind := .stallTimeout, device := some d, address := some r.line, entry := entry, detail := 0 } s)
    | _ => s
  | _ => s

/-- R113: min_run elapses for the waiting burst, and availability is decided again. -/
def minRunEnds (s : State) : State :=
  match s.host.transaction with
  | .read r =>
    match r.stage with
    | .stalled since .minRun =>
      let d := devOf r.addr
      match (s.tracker.get d).record, (s.controller.get d).lastResume with
      | .busyErase sector _ e, some t => decideErase since r sector e (runTo (t + (s.policy.get d).minRun) s)
      | _, _ => s
    | _ => s
  | _ => s

/-- R122: the suspend timeout. The record goes back to BUSY_ERASE and a stalled burst falls to miss_policy, but for one
that fell to it before (R113). DESIGN CHOICE (log 55): a write kept for a status read that a fall has dropped stays kept, until
the status read of the next rise has ended. -/
def suspendTimesOut (d : Dev) (s : State) : State :=
  match (s.tracker.get d).record, (s.controller.get d).suspendTimer with
  | .suspending sector target _ _ e, some t =>
    if (s.tracker.get d).reading then s
    else
      let s := runTo (t + Config.suspendTimeout) s
      let s := post { kind := .suspendFailed, device := some d, address := some target, entry := none, detail := 0 } s
      let s := setRecord d (.busyErase sector target (e.map fun x => { x with disabled := true })) s
      let s := modController d (fun k => { k with suspendTimer := none }) s
      match s.host.transaction with
      | .read r =>
        match r.stage with
        | .stalled since why => if devOf r.addr = d ∧ why ≠ .policy then fallToPolicy since r s else s
        | _ => s
      | _ => s
  | _, _ => s

/-! ### Resumes (R124 to R126) -/

/-- R126: a forwarded read of the device waits for the memory face or holds it. -/
def readOutstanding (s : State) (d : Dev) : Bool :=
  (s.hostPath.any fun t => match t with
    | .read a _ _ _ => devOf a == d
    | _ => false)
  || (match s.bus with
    | some (.host (.read a _ _ _)) => devOf a == d
    | _ => false)

/-- R126: the RESUME called for is raised when no forwarded read of the device is outstanding. -/
def raiseCalledResume (d : Dev) (s : State) : State :=
  match (s.tracker.get d).record with
  | .suspended sector _ .part _ _ =>
    if (s.controller.get d).call.isSome ∧ (s.service.get d).isNone ∧ ¬ readOutstanding s d then
      raiseService d (.resume .timers) (sectorBase sector) s
    else s
  | _ => s

/-- R125: a timer of a part-owned suspension calls for a resume. -/
def callResume (c : ResumeCall) (d : Dev) (s : State) : State :=
  raiseCalledResume d (modController d (fun k => { k with call := some c }) s)

/-- R125: the resume_idle timer reaches resume_idle. -/
def idleTimerEnds (d : Dev) (s : State) : State :=
  match (s.tracker.get d).record, (s.controller.get d).idleTimer, (s.controller.get d).call with
  | .suspended _ _ .part _ _, some t, none => callResume .idle d (runTo (t + (s.policy.get d).resumeIdle) s)
  | _, _, _ => s

/-- R125: the hold_max timer reaches hold_max. -/
def holdTimerEnds (d : Dev) (s : State) : State :=
  match (s.tracker.get d).record, (s.controller.get d).holdTimer with
  | .suspended _ _ .part _ _, some t =>
    if (s.controller.get d).call = some .holdMax then s
    else callResume .holdMax d (runTo (t + (s.policy.get d).holdMax) s)
  | _, _ => s

/-- R125: both timers stop and the call lapses. -/
def stopResumeTimers (d : Dev) (s : State) : State :=
  modController d (fun k => { k with idleTimer := none, holdTimer := none, call := none }) s

/-- R119, R126: the forwarding of a RESUME becomes the last resume, and the timers stop. -/
def resumeForwarded (d : Dev) (s : State) : State :=
  modController d (fun k => { k with lastResume := some s.clock }) (stopResumeTimers d s)

/-- R85: no rise is a completion until the transaction that lowers the line has ended. -/
def disarm (d : Dev) (s : State) : State := modTracker d (fun t => { t with armed := false }) s

/-- R85: the transaction that lowered the line has ended; the line is low (R68). -/
def arm (d : Dev) (s : State) : State :=
  modTracker d (fun t => { t with armed := true }) { s with readyLine := s.readyLine.set d false }

end Sys2Proof.Machine
end

