-- ==== Sys2Proof/Machine/TrackerUnit.lean ====
section
/-! DEFINITION. The command tracker's handling of host writes (R70 to R84, R87), with the guard (R98) and the writes it
keeps (R131). -/

namespace Sys2Proof.Machine

/-- R98: the state of a sector in the lock map. -/
def lockAt (s : State) (sector : Nat) : Lock := (s.locks[sector]?).getD .opened

/-- R71 to R84: what the tracker does with one host write. -/
inductive WriteAction where
  /-- Absorbed without a notice. -/
  | silent
  /-- Absorbed with SEQUENCE_REFUSED. -/
  | refuse
  /-- R72: kept as a held command; with a leave-status write from STATUS. -/
  | hold (next : Record) (leaveStatus : Bool)
  /-- Forwarded to its own address, the record becoming `next` (R76, R77). -/
  | forward (next : Record)
  /-- R79: a SUSPEND forwarded for the host. -/
  | suspendForward (next : Record)
  /-- R81: a RESUME forwarded for the host. -/
  | resumeForward (next : Record)
  /-- R73: the completed sequence is allowed and its command pair raised. -/
  | pair (heldAddr : Nat) (heldWord : Word) (next : Record)
  /-- R75: the completed sequence is refused by the guard. -/
  | guardRefused (operation : Nat) (sector : Nat)
  /-- The record changes and nothing is forwarded (R80, R81). -/
  | become (next : Record)
  deriving DecidableEq, Repr

/-- R76: a write taken in ARRAY. -/
def arrayAction (addr : Nat) (word : Word) : WriteAction :=
  match writeKind word with
  | .array => .forward .array
  | .status => .forward (.status (sectorOf addr))
  | .clearStatus => .forward .array
  | .program => .hold (.heldProgram addr) false
  | .erase => .hold (.heldErase addr) false
  | .suspend => .refuse
  | .resume => .refuse
  | .other => .refuse

/-- R76: a write taken in STATUS. -/
def statusAction (sector addr : Nat) (word : Word) : WriteAction :=
  match writeKind word with
  | .array => .forward .array
  | .status => .forward (.status (sectorOf addr))
  | .clearStatus => .forward (.status sector)
  | .program => .hold (.heldProgram addr) true
  | .erase => .hold (.heldErase addr) true
  | .suspend => .refuse
  | .resume => .refuse
  | .other => .refuse

/-- R77: a write taken in REFUSED is taken as in ARRAY, except that what is absorbed leaves the record REFUSED. -/
def refusedAction (addr : Nat) (word : Word) : WriteAction := arrayAction addr word

/-- R78, R79: a write taken in a BUSY state, SUSPEND apart. -/
def busyAction (word : Word) : WriteAction :=
  match writeKind word with
  | .array => .silent
  | .status => .silent
  | .clearStatus => .silent
  | _ => .refuse

/-- R79: a write taken in BUSY_ERASE. -/
def busyEraseAction (sector target : Nat) (e : Option EraseFields) (word : Word) : WriteAction :=
  match writeKind word with
  | .suspend => .suspendForward (.suspending sector target .host false e)
  | _ => busyAction word

/-- R80: a write taken in SUSPENDING. -/
def suspendingAction (sector target : Nat) (o : Owner) (p : Bool) (e : Option EraseFields) (word : Word) : WriteAction :=
  match writeKind word with
  | .suspend => .become (.suspending sector target .host p e)
  | .resume => .become (.suspending sector target o true e)
  | _ => busyAction word

/-- R81, R124: a write taken in SUSPENDED; a RESUME is absorbed while the tracker's own RESUME of R124 waits. -/
def suspendedAction (resumeStands : Bool) (sector target : Nat) (p : Bool) (e : Option EraseFields)
    (word : Word) : WriteAction :=
  match writeKind word with
  | .suspend => .become (.suspended sector target .host p e)
  | .resume => if resumeStands then .silent else .resumeForward (.busyErase sector target e)
  | _ => busyAction word

/-- R73, R98: the guard allows a sequence whose target sector is OPEN. -/
def guardAllows (s : State) (sector : Nat) : Bool := decide (lockAt s sector = .opened)

/-- R124: the tracker's RESUME of a pending-resume waits for its grant. -/
def pendingResumeWaits (s : State) (d : Dev) : Bool :=
  match s.service.get d with
  | some { work := .resume .pendingResume, .. } => true
  | _ => false

/-- R73: whether a write completes the record's held sequence. -/
def completes (r : Record) (addr : Nat) (word : Word) : Bool :=
  match r with
  | .heldProgram a => decide (addr = a)
  | .heldErase a => decide (word = Config.confirmWord ∧ sectorOf addr = sectorOf a)
  | _ => false

/-- R73, R75, R98: what a completing write does. -/
def completingAction (s : State) (r : Record) (addr : Nat) (word : Word) : WriteAction :=
  match r with
  | .heldProgram a =>
    if guardAllows s (sectorOf a) then .pair a Config.programWord (.busyProgram (sectorOf a) addr word)
    else .guardRefused 1 (sectorOf a)
  | .heldErase a =>
    if guardAllows s (sectorOf a) then .pair a Config.eraseWord (.busyErase (sectorOf a) addr none)
    else .guardRefused 2 (sectorOf a)
  | _ => .silent

/-- R74: the held command a breaking write discards, its address and word. -/
def brokenCommand (r : Record) (addr : Nat) (word : Word) : Option (Nat × Word) :=
  if completes r addr word then none
  else match r with
    | .heldProgram a => some (a, Config.programWord)
    | .heldErase a => some (a, Config.eraseWord)
    | _ => none

/-- R71 to R84: what is done with a write, a breaking write being taken afresh as in ARRAY (R74). -/
def writeAction (s : State) (d : Dev) (addr : Nat) (word : Word) : WriteAction :=
  let r := (s.tracker.get d).record
  match r with
  | .probe => .refuse
  | .absent => .refuse
  | .array => arrayAction addr word
  | .heldProgram _ => if completes r addr word then completingAction s r addr word else arrayAction addr word
  | .heldErase _ => if completes r addr word then completingAction s r addr word else arrayAction addr word
  | .status sector => statusAction sector addr word
  | .refused _ => refusedAction addr word
  | .busyProgram .. => busyAction word
  | .busyErase sector target e => busyEraseAction sector target e word
  | .suspending sector target o p e => suspendingAction sector target o p e word
  | .suspended sector target _ p e => suspendedAction (pendingResumeWaits s d) sector target p e word

/-- R131, R147: the action raises a host path transaction. -/
def WriteAction.raises : WriteAction → Bool
  | .forward _ => true
  | .suspendForward _ => true
  | .resumeForward _ => true
  | .pair .. => true
  | .hold _ leaveStatus => leaveStatus
  | _ => false

/-- R71, R74, R82: SEQUENCE_REFUSED names the word it reports. -/
def postSequenceRefused (d : Dev) (addr : Nat) (word : Word) (s : State) : State :=
  post { kind := .sequenceRefused, device := some d, address := some addr, entry := none, detail := word } s

/-- R100: the detail of GUARD_REFUSED, operation and sector state. -/
def guardDetail (operation : Nat) (l : Lock) : Word := BitVec.ofNat 16 (operation * 256 + l.code)

/-- R125, R126, R127: the owner becomes HOST: the timers stop and a RESUME request of the timers is withdrawn. -/
def hostOwns (d : Dev) (s : State) : State := stopResumeTimers d (withdrawResume d s)

/-- The action of a write carried out. DESIGN CHOICE (log 40): a host SUSPEND taken in BUSY_ERASE takes back a SUSPEND
request of the part not yet forwarded, and the burst it served stays stalled. -/
def applyAction (d : Dev) (addr : Nat) (word : Word) (a : WriteAction) (s : State) : State :=
  match a with
  | .silent => s
  | .refuse => postSequenceRefused d addr word s
  | .hold next leaveStatus =>
    let s := setRecord d next s
    if leaveStatus then raiseHost (.write addr Config.arrayWord) s else s
  | .forward next => raiseHost (.write addr word) (setRecord d next s)
  | .suspendForward next => raiseHost (.write addr word) (setRecord d next (withdrawSuspend d s))
  | .resumeForward next => raiseHost (.write addr word) (disarm d (setRecord d next (hostOwns d s)))
  | .pair heldAddr heldWord next =>
    raiseHost (.pair heldAddr heldWord addr word) (disarm d (setRecord d next s))
  | .guardRefused operation sector =>
    post { kind := .guardRefused, device := some d, address := some addr, entry := none,
           detail := guardDetail operation (lockAt s sector) } (setRecord d (.refused sector) s)
  | .become next =>
    match next with
    | .suspended .. => setRecord d next (hostOwns d s)
    | _ => setRecord d next s

/-- R74: a breaking write first discards the held command with SEQUENCE_REFUSED, the record becoming ARRAY. -/
def breakHeld (d : Dev) (addr : Nat) (word : Word) (s : State) : State :=
  match brokenCommand (s.tracker.get d).record addr word with
  | some (a, w) => setRecord d .array (postSequenceRefused d a w s)
  | none => s

/-- R71: the tracker takes a host write for the record of its device. -/
def takeWrite (d : Dev) (addr : Nat) (word : Word) (s : State) : State :=
  applyAction d addr word (writeAction s d addr word) (breakHeld d addr word s)

/-! ### Kept writes -/

/-- R89, R180: a cleanup write, or a write of the loader, is raised for the record or on the bus (log 25). -/
def cleanupOutstanding (s : State) (d : Dev) : Bool :=
  let pending (w : ServiceWork) : Bool := match w with
    | .resume .cleanup => true
    | .resume .loader => true
    | .arrayWrite _ => true
    | _ => false
  (match s.service.get d with
    | some q => pending q.work
    | none => false)
  || (match s.bus with
    | some (.service e w _) => e == d && pending w
    | _ => false)

/-- R87, R89: a write for the record is kept until its state has settled. -/
def stateUnsettled (s : State) (d : Dev) : Bool :=
  (s.tracker.get d).reading || (s.tracker.get d).keptRun.isSome || cleanupOutstanding s d

/-- R131, R147: a write waits whose handling would raise a host path transaction behind an ungranted one of its device.
DESIGN CHOICE (log 42): this is judged as the write arrives and at each grant of the device; a lock map changed in between, by
which a completing write would raise nothing, does not by itself have it taken, and the guard reads the map when it is.
DESIGN CHOICE (log 50): every transaction of the device that waits counts as earlier, also a read put on the list after the
write had arrived. -/
def pathBlocks (s : State) (d : Dev) (addr : Nat) (word : Word) : Bool :=
  (writeAction s d addr word).raises && decide (hostWaiting s d ≠ 0)

/-- R87, R131: kept writes are taken in their order of arrival while nothing holds them back; `fuel` bounds their number.
DESIGN CHOICE (log 39): a write kept for the host path alone is held back by a status read or a cleanup write too, when one
is outstanding as the path comes free, until that has ended; where a fall drops the reading, until the next status read has
decided the record or the next grant of a host path transaction of the device. -/
def drainKept : Nat → Dev → State → State
  | 0, _, s => s
  | fuel + 1, d, s =>
    match (s.tracker.get d).kept with
    | [] => s
    | k :: rest =>
      if k.untilState || stateUnsettled s d || pathBlocks s d k.addr k.word then s
      else
        let s := modTracker d (fun t => { t with kept := rest }) s
        let s := takeWrite d k.addr k.word s
        drainKept fuel d (if k.hostWaits then setTransaction .none s else s)

/-- Every kept write of the device that can be taken is taken. -/
def retakeKept (d : Dev) (s : State) : State := drainKept (s.tracker.get d).kept.length d s

/-- R87, R89: the record has entered its new state, and the writes kept for that are taken. -/
def releaseKept (d : Dev) (s : State) : State :=
  retakeKept d (modTracker d (fun t => { t with kept := t.kept.map fun k => { k with untilState := false } }) s)

/-- R131: a host write is handed to the tracker record of its device, which takes it or keeps it. -/
def arriveWrite (addr : Nat) (word : Word) (s : State) : State :=
  let d := devOf addr
  let k : KeptWrite := { addr := addr, word := word, hostWaits := true, untilState := stateUnsettled s d }
  retakeKept d (modTracker d (fun t => { t with kept := t.kept ++ [k] }) (setTransaction (.write addr word) s))

end Sys2Proof.Machine
end

