-- ==== Sys2Proof/Machine/HostPort.lean ====
section
/-! DEFINITION. The host face (07_host_face.md) and the read path (R7 to R12): the taking of reads and writes, the hold
during a load, the completion of device operations (R85, R86, R121) and host reset (R89, R128, R140). -/

namespace Sys2Proof.Machine

/-! ### Reads -/

/-- R8, R9: the classification of a burst that begins at `addr`. -/
def classify (s : State) (addr : Nat) : Classification :=
  if (s.tracker.get (devOf addr)).record.commandSector = some (sectorOf addr) then .bypass
  else match lookup s.active (lineOf addr) with
    | some (position, e) => .hit position e.mode (lineOf addr - e.firstLine)
    | none => .miss

/-- R133: the read path takes a burst of `count` words, aligned to its length (R132): at most 16 words of one line, as R65 has
every read of a device. -/
def takeRead (addr count : Nat) (s : State) : State :=
  let base := addr - addr % count
  let d := devOf base
  let r : ReadRecord :=
    { addr := base, count := count, line := lineOf base, generation := s.generation, cls := classify s base,
      stage := .forwarded }
  let s := { s with host := { s.host with transaction := .read r, dataOut := [] } }
  if ¬ installed s d then
    completeRead { r with cls := .miss } (List.replicate count (s.policy.get .dev0).faultWord) s
  else match r.cls with
    | .bypass =>
      match (s.tracker.get d).record with
      | .refused _ => completeRead r (List.replicate count syntheticStatus) s
      | _ => forwardRead r s
    | .hit position mode _ =>
      match mode with
      | .replace .. => setTransaction (.read { r with stage := .store }) s
      | .blank w => completeRead r (List.replicate count w) s
      | .trap =>
        missDecision s.clock r
          (post { kind := .trapHit, device := some d, address := some r.line, entry := some position, detail := 0 } s)
    | .miss => missDecision s.clock r s

/-- R139: a held transaction is taken when load hold is off, as one arriving at that moment. -/
def takeHeld (s : State) : State :=
  if s.host.loadHold ∨ s.host.resetAsserted then s
  else match s.host.transaction with
    | .heldRead addr count => takeRead addr count s
    | .heldWrite addr word => arriveWrite addr word s
    | _ => s

/-- R130, R139, R142: a read presented at the host face. -/
def presentRead (addr count : Nat) (s : State) : State :=
  if s.host.resetAsserted then s
  else if s.host.transaction ≠ .none then s
  else if s.host.loadHold then setTransaction (.heldRead addr count) s
  else takeRead addr count s

/-- R130, R131, R139, R142: a write presented at the host face. -/
def presentWrite (addr : Nat) (word : Word) (s : State) : State :=
  if s.host.resetAsserted then s
  else if s.host.transaction ≠ .none then s
  else if s.host.loadHold then setTransaction (.heldWrite addr word) s
  else arriveWrite addr word s

/-! ### Completion of an operation (R85, R86, R121, R123) -/

/-- R86: OP_DONE and OP_FAILED carry the target word address and the status word. -/
def postOp (kind : NoticeKind) (d : Dev) (target : Nat) (status : Word) (s : State) : State :=
  post { kind := kind, device := some d, address := some target, entry := none, detail := status } s

/-- R16, R17: a present REPLACE entry with follow = yes: the slot of its first line. -/
def Entry.followSlot (e : Entry) : Option Nat :=
  match e.mode with
  | .replace slot true _ => some slot
  | _ => none

/-- R20, R21: a present REPLACE entry with follow = no. -/
def Entry.shadows (e : Entry) : Bool :=
  match e.mode with
  | .replace _ false _ => true
  | _ => false

/-- R17, R18: the slots of an entry's lines inside a sector, in ascending line. -/
def eraseSlots (sector : Nat) (e : Entry) : List Nat :=
  match e.followSlot with
  | none => []
  | some slot =>
    ((List.range e.lineCount).filter fun k => sectorOfLine (e.firstLine + k) == sector).map fun k => slot + k

/-- R16, R17, R18: the follow run of a completion, fixed from the ACTIVE bank now in force (log 54); none when it writes no
word. -/
def followRunOf (s : State) (d : Dev) (r : Record) : Option FollowRun :=
  match r with
  | .busyProgram _ target data =>
    match lookup s.active (lineOf target) with
    | some (_, e) =>
      match e.followSlot with
      | some slot => some (.program d (slot + (lineOf target - e.firstLine)) (offsetOf target) data)
      | none => none
    | none => none
  | .busyErase sector .. | .suspending sector .. =>
    match (activeEntries s.active).flatMap fun p => eraseSlots sector p.2 with
    | [] => none
    | slots => some (.erase d slots 0)
  | _ => none

/-- The device whose completion caused a run. -/
def FollowRun.dev : FollowRun → Dev
  | .program d _ _ _ => d
  | .erase d _ _ => d

/-- R18: the follow list holds a run of the device. -/
def listHolds (s : State) (d : Dev) : Bool := s.follow.waiting.any fun x => x.dev == d

/-- R18: a follow run not yet begun begins when none is in progress. -/
def beginRun (s : State) : State :=
  match s.follow.current, s.follow.waiting with
  | none, run :: rest => { s with follow := { current := some run, waiting := rest } }
  | _, _ => s

/-- R18: a run is handed to the follow list. -/
def handOver (run : FollowRun) (s : State) : State :=
  beginRun { s with follow := { s.follow with waiting := s.follow.waiting ++ [run] } }

/-- R86, R87, R116: the record enters STATUS, the erase's controller state lapses (R119), the writes kept for it are
taken, and a stalled burst of the device is released. -/
def enterStatus (d : Dev) (sector : Nat) (s : State) : State :=
  let s := modTracker d (fun t => { t with record := .status sector, armed := false, reading := false, keptRun := none }) s
  resolveStalled d (releaseKept d (lapseController d s))

/-- R86: a completion's status word shows READY. DESIGN CHOICE (log 54): the completion whose ACTIVE bank fixes the follow run
(R16, R17, R18) is this moment, the end of the status read, and not the rise that R85 takes as the completion. -/
def completeOperation (d : Dev) (sector target : Nat) (status : Word) (s : State) : State :=
  let r := (s.tracker.get d).record
  let s := modTracker d (fun t => { t with armed := false, reading := false }) s
  if statusFails status then enterStatus d sector (postOp .opFailed d target status s)
  else
    let s := postOp .opDone d target status s
    match followRunOf s d r with
    | none => enterStatus d sector s
    | some run =>
      if listHolds s d then modTracker d (fun t => { t with keptRun := some run }) s
      else enterStatus d sector (handOver run s)

/-- R18: a run kept back is handed over once the list holds no run of its device (log 45). -/
def handKeptRun (d : Dev) (s : State) : State :=
  match (s.tracker.get d).keptRun, (s.tracker.get d).record.commandSector with
  | some run, some sector => if listHolds s d then s else enterStatus d sector (handOver run s)
  | _, _ => s

/-- R121, R123: the record arrives in SUSPENDED. With pending-resume set a RESUME is raised (R124); otherwise the timers
of a part-owned suspension start (R125) and a stalled burst is released. -/
def arriveSuspended (d : Dev) (sector target : Nat) (o : Owner) (p : Bool) (e : Option EraseFields) (s : State) : State :=
  let s := modTracker d (fun t => { t with record := .suspended sector target o p e, reading := false }) s
  if p then releaseKept d (raiseService d (.resume .pendingResume) (sectorBase sector) s)
  else
    let s := if o = .part then
        modController d (fun k => { k with idleTimer := some s.clock, holdTimer := some s.clock, call := none }) s
      else s
    resolveStalled d (releaseKept d s)

/-- R86, R121, R65: the tracker makes the one-word status read at the first word of the command sector. -/
def raiseStatusRead (d : Dev) (sector : Nat) (s : State) : State :=
  raiseService d (.statusRead false) (sectorBase sector) (modTracker d (fun t => { t with reading := true }) s)

/-- R86, R121, R123: a status read has ended with `w`. -/
def statusReadEnds (d : Dev) (w : Word) (s : State) : State :=
  match (s.tracker.get d).record with
  | .busyProgram sector target _ =>
    if statusReady w then completeOperation d sector target w s else raiseStatusRead d sector s
  | .busyErase sector target e =>
    if (e.map (·.disabled)).getD false ∧ statusSuspended w then
      arriveSuspended d sector target .part false e (disarm d s)
    else if statusReady w then completeOperation d sector target w s
    else raiseStatusRead d sector s
  | .suspending sector target o p e =>
    if statusSuspended w then arriveSuspended d sector target o p e s
    else if statusReady w then completeOperation d sector target w s
    else raiseStatusRead d sector s
  | _ => modTracker d (fun t => { t with reading := false }) s

/-- R85, R121: a rise taken as a completion, or as the answer to a SUSPEND, raises the status read; a status read whose
reading was dropped and that still waits serves again (log 13). DESIGN CHOICE (log 51): its place is then that of a request
raised at this rise, behind every host path transaction of its device that waits now. -/
def riseTaken (d : Dev) (sector : Nat) (s : State) : State :=
  raiseStatusRead d sector
    (modController d (fun k => { k with suspendTimer := none }) (withdrawSuspend d s))

/-- A burst whose SUSPEND request has been withdrawn waits for its decision again (log 16). -/
def burstWaitsAgain (d : Dev) (s : State) : State :=
  match s.host.transaction with
  | .read r =>
    match r.stage with
    | .stalled since .suspendRaised => if devOf r.addr = d then stallRead since .minRun r s else s
    | _ => s
  | _ => s

/-- R86: a fall of the line before a status read shows READY: the reading is dropped (log 13). DESIGN CHOICE (log 39): a write
kept for the host path alone, which the reading has held back, is not taken by the fall. DESIGN CHOICE (log 55): neither is one
kept for the status read itself, which waits for the read of a later rise. -/
def dropReading (d : Dev) (s : State) : State :=
  if (s.tracker.get d).reading then
    let s := modTracker d (fun t => { t with reading := false }) s
    let s := match s.service.get d with
      | some { work := .statusRead _, addr := a, behind := n } =>
        { s with service := s.service.set d (some { work := .statusRead true, addr := a, behind := n }) }
      | _ => s
    match s.bus with
    | some (.service e (.statusRead _) a) =>
      if e = d then { s with bus := some (.service e (.statusRead true) a) } else s
    | _ => s
  else s

/-! ### Host reset -/

/-- R141: a read of a burst keeps its place on the list and on the bus, its words to be discarded. -/
def HostTxn.discarded : HostTxn → HostTxn
  | .read a n b _ => .read a n b true
  | t => t

def BusTxn.discarded : BusTxn → BusTxn
  | .host t => .host t.discarded
  | t => t

/-- R141: the read in progress is dropped. -/
def dropRead (r : ReadRecord) (s : State) : State :=
  let d := devOf r.addr
  let s := withdrawSuspend d s
  let dropped := match r.stage, r.cls with
    | .store, .hit _ (.replace slot _ _) k =>
      if s.host.dropped.isSome then s.host.dropped
      else some (storeAddr (slot + k) (offsetOf r.addr + s.host.dataOut.length))
    | _, _ => s.host.dropped
  { s with
    host := { s.host with dropped := dropped }
    hostPath := s.hostPath.map HostTxn.discarded
    bus := s.bus.map BusTxn.discarded }

/-- R140: the host face ends the transaction present; a write stays with the tracker (R131). -/
def endTransaction (s : State) : State :=
  let s := match s.host.transaction with
    | .read r => dropRead r s
    | _ => s
  let unwait (t : Tracker) : Tracker := { t with kept := t.kept.map fun k => { k with hostWaits := false } }
  setTransaction .none (modTracker .dev0 unwait (modTracker .dev1 unwait s))

/-- A write of the word of a cleanup write, raised by cleanup or by the loader (R180), already holds the bus for a record that
keeps its state until it ends. -/
def cleanupOnBus (s : State) (d : Dev) (work : ServiceWork) : Bool :=
  match work, s.bus with
  | .arrayWrite _, some (.service e (.arrayWrite _) _) => e == d
  | .resume _, some (.service e (.resume .cleanup) _) => e == d
  | _, _ => false

/-- R89: the cleanup write of a record is raised, in place of a request of its word that waits. DESIGN CHOICE (log 53): it
stands in R148's order as raised at the assertion, and does not keep the place of the request it replaces. DESIGN CHOICE
(log 32): a write of its word that already holds the bus stands for it, as one that waits would, and no second one is raised. -/
def raiseCleanup (d : Dev) (work : ServiceWork) (sector : Nat) (s : State) : State :=
  if cleanupOnBus s d work then s else raiseService d work (sectorBase sector) s

/-- R89, R128: one record cleaned up according to its state. -/
def cleanupRecord (d : Dev) (s : State) : State :=
  match (s.tracker.get d).record with
  | .heldProgram _ => setRecord d .array s
  | .heldErase _ => setRecord d .array s
  | .refused _ => setRecord d .array s
  | .status sector => raiseCleanup d (.arrayWrite true) sector s
  | .suspending sector target o _ e => setRecord d (.suspending sector target o true e) s
  | .suspended sector _ _ _ _ => raiseCleanup d (.resume .cleanup) sector (stopResumeTimers d s)
  | .probe => s
  | .absent => s
  | .array => s
  | .busyProgram .. => s
  | .busyErase .. => s

/-- R44, R47, R140: a commit of origin MANAGEMENT is cancelled; one of origin LOADER that waited for the dropped read
switches. -/
def commitMeetsReset (s : State) : State :=
  match s.commit with
  | .idle => s
  | .verifying f _ => if f.origin = .management then cancelCommitWith cancelHostReset s else s
  | .pendingBoundary f =>
    if f.origin = .management then cancelCommitWith cancelHostReset s else loaderFollows (switchBanks s)
  | .pendingMark f _ => if f.origin = .management then cancelCommitWith cancelHostReset s else s

/-- R140: an assertion of HRST_N, taken as one event. DESIGN CHOICE (log 19): HOST_RESET is posted last, after a
COMMIT_CANCELLED and after the COMMIT_TAKEN and LOAD_DONE of a loader's commit that the dropped read held back. -/
def hostResets (s : State) : State :=
  let s := { s with host := { s.host with resetAsserted := true } }
  let s := commitMeetsReset (endTransaction s)
  let s := cleanupRecord .dev1 (cleanupRecord .dev0 s)
  post { kind := .hostReset, device := none, address := none, entry := none, detail := 0 } s

end Sys2Proof.Machine
end

