-- ==== Sys2Proof/Machine/StoreFill.lean ====
section
/-! DEFINITION. The store requests (R52 to R55), the fill engine (R56 to R63) and the follow runs at the port (R18). -/

namespace Sys2Proof.Machine

/-! ### The store pointer -/

/-- SET_STORE_POINTER (R52). -/
def cmdSetStorePointer (args : List Byte) (s : State) : Reply × State :=
  if args.length ≠ 3 then ((.badArg, []), s)
  else
    let slot := argField args 0 2
    let offset := argField args 2 1
    if slot > 2047 ∨ offset > 15 then ((.badArg, []), s)
    else ((.ok, []), { s with ptr := { slot := slot, offset := offset } })

/-- R54, R55: the count and the pointer that the response of a store request carries. -/
def storePayload (count : Nat) (s : State) : List Byte := be16 count ++ be16 s.ptr.slot ++ be8 s.ptr.offset

/-- What the processing of a request comes to in its first step: a reply, or store accesses still to be taken (R191). -/
inductive Served where
  | reply (r : Reply) (s : State)
  | working (w : StoreWork) (s : State)

/-- The words a WRITE_STORE carries (R209), `n` of them from byte `i`. -/
def wordsOf (args : List Byte) : Nat → Nat → List Word
  | _, 0 => []
  | i, n + 1 => BitVec.ofNat 16 (argField args i 2) :: wordsOf args (i + 2) n

/-- WRITE_STORE (R54, R210), up to its first port access. DESIGN CHOICE (log 43): refused at check 4 for its argument length,
its payload is empty. -/
def cmdWriteStore (args : List Byte) (s : State) : Served :=
  if args.length < 2 ∨ args.length % 2 = 1 then .reply (.badArg, []) s
  else
    let count := argField args 0 2
    let carried := (args.length - 2) / 2
    if count = 0 ∨ count > 256 ∨ count ≠ carried then .reply (.badArg, storePayload 0 s) s
    else if s.ptr.atEnd then .reply (.badArg, storePayload 0 s) s
    else .working (.write (wordsOf args 2 carried) 0) s

/-- READ_STORE (R55), up to its first port access. DESIGN CHOICE (log 43): refused at check 4, its payload is empty. -/
def cmdReadStore (args : List Byte) (s : State) : Served :=
  if args.length ≠ 2 then .reply (.badArg, []) s
  else
    let count := argField args 0 2
    if count = 0 ∨ count > 256 then .reply (.badArg, storePayload 0 s) s
    else if s.ptr.atEnd then .reply (.badArg, storePayload 0 s) s
    else .working (.read count []) s

/-- R55: the payload of a READ_STORE. -/
def readPayload (words : List Word) (s : State) : List Byte :=
  storePayload words.length s ++ words.flatMap fun w => be16 w.toNat

/-- R50, R53 to R55: one management access taken at the port; what is left of the request, or its reply. -/
def storeWork (w : StoreWork) (s : State) : Served :=
  match w with
  | .write [] count => .reply (.ok, storePayload count s) s
  | .write (x :: rest) count =>
    match portRefusal s s.ptr.slot with
    | some status => .reply (status, storePayload count s) s
    | none =>
      let s := storeWrite s.ptr.slot s.ptr.offset x s
      let s := { s with ptr := s.ptr.next }
      if rest = [] then .reply (.ok, storePayload (count + 1) s) s
      else if s.ptr.atEnd then .reply (.badArg, storePayload (count + 1) s) s
      else .working (.write rest (count + 1)) s
  | .read 0 words => .reply (.ok, readPayload words s) s
  | .read (n + 1) words =>
    let words := words ++ [storeRead s s.ptr.slot s.ptr.offset]
    let s := { s with ptr := s.ptr.next }
    if n = 0 then .reply (.ok, readPayload words s) s
    else if s.ptr.atEnd then .reply (.badArg, readPayload words s) s
    else .working (.read n words) s

/-! ### The fill engine -/

/-- 12.2: the details of FILL_FAILED. -/
def AbortCause.code : AbortCause → Nat
  | .aborted => 1
  | .cleared => 2

/-- R60, R62, R63: FILL_FAILED with the first line not written; the engine is IDLE and its progress stays. DESIGN CHOICE
(log 47): a fill aborted in the last line of the address space posts first_line + line_count, one above R153's range. -/
def fillFails (j : FillJob) (cause : AbortCause) (s : State) : State :=
  post { kind := .fillFailed, device := some (devOfLine j.firstLine), address := some (j.firstLine + s.fill.progress),
         entry := j.target, detail := BitVec.ofNat 16 cause.code }
    { s with fill := { s.fill with job := none } }

/-- R61: the fill ends: the check value is handed on, FILL_DONE posted, and the engine IDLE. -/
def fillEnds (j : FillJob) (s : State) : State :=
  let s := match j.target with
    | some t => updateCheck t j.check s
    | none => s
  post { kind := .fillDone, device := some (devOfLine j.firstLine), address := some j.firstLine, entry := j.target,
         detail := j.check }
    { s with fill := { s.fill with job := none } }

/-- R62, R63: a running fill is stopped, at once when no line is in flight, else at the end of the line. -/
def stopFill (cause : AbortCause) (s : State) : State :=
  match s.fill.job with
  | none => s
  | some j =>
    match j.stage with
    | .waiting => fillFails j cause s
    | _ => { s with fill := { s.fill with job := some { j with abort := some cause } } }

/-- R57: the range of slots from `slot` on, `n` of them, meets a predicate. -/
def anySlot (p : Nat → Bool) (slot n : Nat) : Bool := (List.range n).any fun k => p (slot + k)

/-- FILL (R57). -/
def cmdFill (args : List Byte) (s : State) : Reply × State :=
  if ¬ (args.length = 8 ∨ args.length = 9) then ((.badArg, []), s)
  else if s.fill.job.isSome then ((.busy, []), s)
  else
    let slot := argField args 0 2
    let line := argField args 2 4
    let count := argField args 6 2
    let target := if args.length = 9 then some (argField args 8 1) else none
    if slot > 2047 ∨ line > 2097151 ∨ count = 0 ∨ count > 256 ∨ target.getD 0 > 63 then ((.badArg, []), s)
    else if slot + count - 1 > 2047 then ((.badArg, []), s)
    else if line + count - 1 > 2097151
        ∨ (line ≤ Config.deviceLines - 1 ∧ Config.deviceLines ≤ line + count - 1) then ((.badArg, []), s)
    else if ¬ installed s (devOfLine line) then ((.badArg, []), s)
    else if (target.map fun t => ((stagedAt s.staged t).bind Entry.slotRun).isNone).getD false then ((.badArg, []), s)
    else if anySlot (live s) slot count then ((.refusedLive, []), s)
    else if anySlot (stagedProtected s) slot count then ((.refusedState, []), s)
    else ((.ok, []),
      { s with fill := { job := some { firstSlot := slot, firstLine := line, lineCount := count, target := target,
                                       check := crcInit, stage := .waiting, abort := none }
                         progress := 0 } })

/-- ABORT_FILL (R62). DESIGN CHOICE (log 52): one that finds the abort cause already CLEARED (R63) is answered OK and leaves
it, as a second ABORT_FILL does. -/
def cmdAbortFill (args : List Byte) (s : State) : Reply × State :=
  if args.length ≠ 0 then ((.badArg, []), s)
  else match s.fill.job with
    | none => ((.refusedState, []), s)
    | some j => ((.ok, []), if j.abort.isSome then s else stopFill .aborted s)

/-- R58, R147, R65: the line the fill engine asks to read whole, when it waits for a line that is readable. -/
def fillRequest (s : State) : Option Nat :=
  match s.fill.job with
  | some j =>
    match j.stage with
    | .waiting =>
      let line := j.firstLine + s.fill.progress
      if readable s line then some line else none
    | _ => none
  | none => none

/-- R59, R60: the fill read has ended: the line buffer is filled and the line's slot re-checked. DESIGN CHOICE (log 38): a
re-check that fails posts detail CLEARED, also when the abort cause is ABORTED. -/
def fillLineRead (words : LineWords) (s : State) : State :=
  match s.fill.job with
  | some j =>
    if (portRefusal s (j.firstSlot + s.fill.progress)).isSome then fillFails j .cleared s
    else { s with fill := { s.fill with job := some { j with stage := .writing words 0 } } }
  | none => s

/-- R59, R62, R63: a line is done. -/
def fillLineDone (j : FillJob) (s : State) : State :=
  let s := { s with fill := { s.fill with progress := s.fill.progress + 1 } }
  match j.abort with
  | some cause => fillFails j cause s
  | none =>
    if s.fill.progress = j.lineCount then fillEnds j s
    else { s with fill := { s.fill with job := some { j with stage := .waiting } } }

/-- R59, R60: one fill write taken at the port. -/
def fillWrite (j : FillJob) (buffer : LineWords) (offset : Nat) (s : State) : State :=
  let slot := j.firstSlot + s.fill.progress
  if (portRefusal s slot).isSome then fillFails j .cleared s
  else
    let w := (buffer[offset]?).getD 0
    let s := storeWrite slot offset w s
    let j := { j with check := crcWord j.check w }
    if offset < 15 then { s with fill := { s.fill with job := some { j with stage := .writing buffer (offset + 1) } } }
    else fillLineDone j s

/-! ### Follow runs -/

/-- R18: after a run has ended the next one begins, and runs kept back are handed over. DESIGN CHOICE (log 45): each is handed
over as soon as the list holds no run of its device, and runs are taken in the order in which they were handed over. -/
def followRunEnds (s : State) : State :=
  handKeptRun .dev1 (handKeptRun .dev0 (beginRun { s with follow := { s.follow with current := none } }))

/-- R16, R17, R18: one follow write taken at the port. -/
def followWrite (run : FollowRun) (s : State) : State :=
  match run with
  | .program _ slot offset data =>
    followRunEnds (storeWrite slot offset (storeRead s slot offset &&& data) s)
  | .erase _ [] _ => followRunEnds s
  | .erase d (slot :: rest) offset =>
    let s := storeWrite slot offset Config.erasedWord s
    if offset < 15 then { s with follow := { s.follow with current := some (.erase d (slot :: rest) (offset + 1)) } }
    else if rest = [] then followRunEnds s
    else { s with follow := { s.follow with current := some (.erase d rest 0) } }

/-! ### The read path at the port -/

/-- R10, R134: one store word of a REPLACE burst is read and answered; the last one completes the burst. -/
def readStoreWord (r : ReadRecord) (slot k : Nat) (s : State) : State :=
  let w := storeRead s (slot + k) (offsetOf r.addr + s.host.dataOut.length)
  let words := s.host.dataOut ++ [w]
  if words.length < r.count then { s with host := { s.host with dataOut := words } }
  else completeRead r words s

end Sys2Proof.Machine
end

