-- ==== Sys2Proof/Machine/LoaderUnit.lean ====
section
/-! DEFINITION. The start-up loader (10_start_up_records.md): reading, validating and applying records, the load's end,
and the reload (R179, R180). -/

namespace Sys2Proof.Machine

/-- R167: the first word address of the boot area. -/
def bootBase (s : State) : Nat := sectorBase s.loader.bootSector

/-- The loader's state replaced. -/
def setLoader (l : LoaderState) (s : State) : State := { s with loader := { s.loader with state := l } }

/-- R193: the loader is running in every state but IDLE. -/
def loaderRunning (s : State) : Bool := decide (s.loader.state ≠ .idle)

/-- R171: why a load stops, with the codes of 12.2. -/
inductive LoadReason where
  | recordLimit
  | areaEnd
  | length
  | check
  | type
  | range
  | slotLive
  | noDevice
  deriving DecidableEq, Repr

def LoadReason.code : LoadReason → Nat
  | .recordLimit => 1
  | .areaEnd => 2
  | .length => 3
  | .check => 4
  | .type => 5
  | .range => 6
  | .slotLive => 7
  | .noDevice => 8

/-- R174: a load stops: LOAD_ERROR, the STAGED bank all absent, the loader IDLE, the host face released and a held
transaction taken (R139). -/
def loadFails (reason : LoadReason) (index : Nat) (address : Option Nat) (s : State) : State :=
  let s := post { kind := .loadError, device := some .dev0, address := address, entry := none,
                  detail := BitVec.ofNat 16 (reason.code * 256 + index) } s
  let s := setLoader .idle (emptyStaged s)
  takeHeld { s with host := { s.host with loadHold := false } }

/-- R171, checks 1 and 2: the record that begins at `position` is begun. -/
def beginRecord (origin : LoadOrigin) (index position : Nat) (s : State) : State :=
  if index ≥ Config.recordLimit then loadFails .recordLimit index (some (bootBase s + position)) s
  else if position + 2 > Config.sectorWords then loadFails .areaEnd index (some (bootBase s + position)) s
  else setLoader (.reading origin index position []) s

/-- The length word of a record, once in the buffer (R168). -/
def recordLength (buffer : List Word) : Nat := (buffer.getD 1 0).toNat

/-- R170: how many words of the record are still to be read. -/
def wordsWanted (buffer : List Word) : Nat :=
  if buffer.length < 2 then 2 - buffer.length else recordLength buffer + 3 - buffer.length

/-- R170, R147, R65: the loader's next read, its word address and length within one line, when the line is readable (log 20). -/
def loaderRequest (s : State) : Option (Nat × Nat) :=
  match s.loader.state with
  | .reading _ _ position buffer =>
    let addr := bootBase s + position
    let n := min (wordsWanted buffer) (Config.lineWords - addr % Config.lineWords)
    if n = 0 then none
    else if readable s (lineOf addr) then some (addr, n) else none
  | _ => none

/-! ### Records (R168, R169, R172, 12.4) -/

/-- The `i`-th body word of a record, as a number. -/
def bodyWord (buffer : List Word) (i : Nat) : Nat := (buffer.getD (i + 2) 0).toNat

/-- R168: the type code and the low byte of the header. -/
def recordType (buffer : List Word) : Nat := (buffer.getD 0 0).toNat / 256
def headerLow (buffer : List Word) : Nat := (buffer.getD 0 0).toNat % 256

def typeOverlay : Nat := 1
def typeLock : Nat := 2
def typePolicy : Nat := 3
def typeEnable : Nat := 4
def typeEnd : Nat := 5

/-- R169: the length suits the type; for OVERLAY it is computed from the body itself. -/
def lengthSuits (buffer : List Word) : Bool :=
  let n := recordLength buffer
  if recordType buffer = typeOverlay then
    let count := bodyWord buffer 4
    if n < 11 then false
    else if bodyWord buffer 10 = 1 ∧ 1 ≤ count ∧ count ≤ 256 then decide (n = 11 + count * 16)
    else decide (n = 11)
  else if recordType buffer = typeLock then decide (n % 3 = 0 ∧ 3 ≤ n ∧ n ≤ 96)
  else if recordType buffer = typePolicy then decide (n = 9)
  else if recordType buffer = typeEnable then decide (n = 2)
  else decide (n = 0)

/-- R172: the entry of an OVERLAY record whose fields are in range. -/
def overlayEntry (buffer : List Word) : Option (Nat × Entry) :=
  let b := bodyWord buffer
  let line := b 2 * 65536 + b 3
  let count := b 4
  if b 0 > 63 then none
  else if line > 2097151 ∨ count = 0 ∨ count > 256 then none
  else if b 10 > 1 then none
  else if b 1 = 1 then
    if b 5 > 2047 ∨ b 7 > 1 ∨ (b 7 = 0 ∧ b 8 ≠ 0) ∨ b 9 ≠ 0 then none
    else if b 10 = 1 ∧ b 5 + count - 1 > 2047 then none
    else match natBool (b 6) with
      | none => none
      | some follow =>
        let check := if b 7 = 1 then some (BitVec.ofNat 16 (b 8)) else none
        some (b 0, { firstLine := line, lineCount := count, mode := .replace (b 5) follow check })
  else if b 10 ≠ 0 ∨ b 5 ≠ 0 ∨ b 6 ≠ 0 ∨ b 7 ≠ 0 ∨ b 8 ≠ 0 then none
  else if b 1 = 2 then some (b 0, { firstLine := line, lineCount := count, mode := .blank (BitVec.ofNat 16 (b 9)) })
  else if b 1 = 3 then
    if b 9 ≠ 0 then none else some (b 0, { firstLine := line, lineCount := count, mode := .trap })
  else none

/-- R175: the inline flag of a valid OVERLAY record. -/
def inlineFlag (buffer : List Word) : Bool := bodyWord buffer 10 == 1

/-- R172: a triple of a LOCK record in range. -/
def lockTriple (first count state : Nat) : Option (Nat × Nat × Lock) :=
  if first > 511 ∨ count = 0 ∨ count > 512 ∨ first + count - 1 > 511 then none
  else (lockOf state).map fun l => (first, count, l)

/-- R172: the `n` triples of a LOCK record from triple `i` on; none when one is out of range. -/
def lockTriples (buffer : List Word) : Nat → Nat → Option (List (Nat × Nat × Lock))
  | _, 0 => some []
  | i, n + 1 =>
    match lockTriple (bodyWord buffer (3 * i)) (bodyWord buffer (3 * i + 1)) (bodyWord buffer (3 * i + 2)),
          lockTriples buffer (i + 1) n with
    | some t, some rest => some (t :: rest)
    | _, _ => none

/-- R172: the policy of a POLICY record in range. -/
def recordPolicy (buffer : List Word) : Option (Dev × Policy) :=
  let b := bodyWord buffer
  match devOfNumber (b 0), policyOf (b 1) (b 2) (b 3) (b 4) (b 5) (b 6) (b 7) (b 8) with
  | some d, some p => some (d, p)
  | _, _ => none

/-- R172, R211: the enable set of an ENABLE record, whose positions assigned to no kind are 0. -/
def recordEnable (buffer : List Word) : Option (Vector Bool 18) :=
  if bodyWord buffer 1 > 3 then none
  else some (Vector.ofFn fun i : Fin 18 =>
    if i.val < 16 then (buffer.getD 2 0).getLsbD i.val else (buffer.getD 3 0).getLsbD (i.val - 16))

/-- R172: check 8. -/
def rangeFails (buffer : List Word) : Bool :=
  if recordType buffer = typeOverlay then (overlayEntry buffer).isNone
  else if recordType buffer = typeLock then (lockTriples buffer 0 (recordLength buffer / 3)).isNone
  else if recordType buffer = typePolicy then (recordPolicy buffer).isNone
  else if recordType buffer = typeEnable then (recordEnable buffer).isNone
  else false

/-- R173: check 9, an OVERLAY record with inline data names a live slot. -/
def slotLiveFails (s : State) (buffer : List Word) : Bool :=
  decide (recordType buffer = typeOverlay) && inlineFlag buffer
    && anySlot (live s) (bodyWord buffer 5) (bodyWord buffer 4)

/-- R171: checks 5 to 9, made when the whole record is in the buffer. -/
def recordFailure (s : State) (buffer : List Word) : Option LoadReason :=
  let n := recordLength buffer
  if buffer.getD (n + 2) 0 ≠ crcWords (buffer.take (n + 2)) then some .check
  else if ¬ (1 ≤ recordType buffer ∧ recordType buffer ≤ 5 ∧ headerLow buffer = 0) then some .type
  else if ¬ lengthSuits buffer then some .length
  else if rangeFails buffer then some .range
  else if slotLiveFails s buffer then some .slotLive
  else none

/-! ### The lock map (R93, R95, R97) -/

/-- R93, R95: a range of sectors takes a state, FROZEN sectors skipped, as one change. -/
def applyLock (first count : Nat) (l : Lock) (s : State) : State :=
  { s with locks := s.locks.mapIdx fun i x =>
      if first ≤ i ∧ i < first + count ∧ x ≠ .frozen then l else x }

/-- R95: the number of FROZEN sectors of a range. -/
def skippedCount (s : State) (first count : Nat) : Nat :=
  (List.range count).countP fun k => lockAt s (first + k) == .frozen

/-! ### Application (R175 to R177) -/

/-- R176: the next record follows. -/
def nextRecord (origin : LoadOrigin) (index position : Nat) (s : State) : State :=
  beginRecord origin (index + 1) position s

/-- R175: the entry of an OVERLAY record is staged, and the next record follows. -/
def stageOverlay (origin : LoadOrigin) (index position : Nat) (buffer : List Word) (s : State) : State :=
  let s := match overlayEntry buffer with
    | some (i, e) => { s with staged := s.staged.setIfInBounds i (some e) }
    | none => s
  nextRecord origin index position s

/-- R177, R47: at END the loader enters COMMITTING and issues its internal commit; a commit that ends at once is
followed by LOAD_DONE and the release. -/
def loaderCommit (origin : LoadOrigin) (index : Nat) (s : State) : State :=
  let s := setLoader (.committing origin (index + 1)) s
  takeHeld (loaderFollows (startCommit { mode := .immediate, origin := .loader } s))

/-- R175, R176: a valid record is applied. -/
def applyRecord (origin : LoadOrigin) (index position : Nat) (buffer : List Word) (s : State) : State :=
  let type := recordType buffer
  if type = typeOverlay then
    if inlineFlag buffer then setLoader (.applying origin index position buffer 0) s
    else stageOverlay origin index position buffer s
  else if type = typeLock then
    let triples := (lockTriples buffer 0 (recordLength buffer / 3)).getD []
    nextRecord origin index position (triples.foldl (fun s t => applyLock t.1 t.2.1 t.2.2 s) s)
  else if type = typePolicy then
    nextRecord origin index position
      (match recordPolicy buffer with
      | some (d, p) => { s with policy := s.policy.set d p }
      | none => s)
  else if type = typeEnable then
    nextRecord origin index position
      (match recordEnable buffer with
      | some e => { s with notices := { s.notices with enabled := e } }
      | none => s)
  else loaderCommit origin index s

/-- R170, R171: words of a loader read enter the record buffer, and the record is checked as far as it stands. -/
def loaderWords (words : List Word) (s : State) : State :=
  match s.loader.state with
  | .reading origin index position buffer =>
    let start := position - buffer.length
    let buffer := buffer ++ words
    let position := position + words.length
    let n := recordLength buffer
    let address := some (bootBase s + start)
    if buffer.length < 2 then setLoader (.reading origin index position buffer) s
    else if n > Config.recordBodyLimit then loadFails .length index address s
    else if start + n + 3 > Config.sectorWords then loadFails .areaEnd index address s
    else if buffer.length < n + 3 then setLoader (.reading origin index position buffer) s
    else match recordFailure s buffer with
      | some reason => loadFails reason index address s
      | none => applyRecord origin index position buffer s
  | _ => s

/-- R175: one inline word taken at the port. A refusal, which R173 rules out, leaves the word unwritten (log 21). -/
def loaderWrite (origin : LoadOrigin) (index position : Nat) (buffer : List Word) (written : Nat) (s : State) : State :=
  let slot := bodyWord buffer 5 + written / Config.lineWords
  let w := buffer.getD (13 + written) 0
  let s := if (portRefusal s slot).isSome then s else storeWrite slot (written % Config.lineWords) w s
  if written + 1 < bodyWord buffer 4 * Config.lineWords then
    setLoader (.applying origin index position buffer (written + 1)) s
  else stageOverlay origin index position buffer s

/-! ### The start of a load (R178 to R180) -/

/-- R178, R180: the loader enters READING with record index 0 and read position 0. -/
def enterReading (origin : LoadOrigin) (s : State) : State := beginRecord origin 0 0 s

/-- R180: the loader leaves WAITING once the fill engine is IDLE and the boot area's first line is readable. DESIGN CHOICE
(log 41): it waits also for a host write that device 0's record keeps, since the tracker is handed no write once READING has
begun (R181). -/
def loadBegins (s : State) : State :=
  match s.loader.state with
  | .waiting origin _ =>
    if s.fill.job.isNone ∧ readable s (lineOf (bootBase s)) ∧ s.tracker.dev0.kept = [] then enterReading origin s
    else s
  | _ => s

/-- R178: the probe timeout. -/
def probeTimesOut (s : State) : State :=
  match s.loader.state with
  | .waiting _ since =>
    if s.tracker.dev0.record = .probe then
      loadFails .noDevice 0 none (runTo (since + Config.probeTimeout) s)
    else s
  | _ => s

/-- A write of the same word is already raised for the record, or on the bus (R180). -/
def writeStands (s : State) (d : Dev) : Bool :=
  (s.service.get d).isSome
  || (match s.bus with
    | some (.service e w _) => e == d && (match w with
        | .resume _ => true
        | .arrayWrite _ => true
        | _ => false)
    | _ => false)

/-- R180: while a reload waits, the loader ends a boot sector STATUS or REFUSED of device 0, or resumes a host-owned
suspension. -/
def loaderAttends (s : State) : State :=
  match s.loader.state with
  | .waiting .reload _ =>
    match s.tracker.dev0.record with
    | .status sector =>
      if sector = s.loader.bootSector ∧ ¬ writeStands s .dev0 then
        raiseService .dev0 (.arrayWrite false) (bootBase s) s
      else s
    | .refused sector => if sector = s.loader.bootSector then setRecord .dev0 .array s else s
    | .suspended sector _ .host _ _ =>
      if ¬ writeStands s .dev0 then raiseService .dev0 (.resume .loader) (sectorBase sector) s else s
    | _ => s
  | _ => s

/-- R85, R88, R121: the ready line of a device rises. -/
def readyRises (d : Dev) (s : State) : State :=
  let s := { s with readyLine := s.readyLine.set d true }
  let t := s.tracker.get d
  match t.record with
  | .probe =>
    let s := resolveStalled d (setRecord d .array s)
    match d, s.loader.state with
    | .dev0, .waiting .powerOn _ => enterReading .powerOn s
    | _, _ => s
  | .busyProgram sector _ _ => if t.armed ∧ ¬ t.reading then riseTaken d sector s else s
  | .busyErase sector _ _ =>
    if t.armed ∧ ¬ t.reading then riseTaken d sector (burstWaitsAgain d s) else s
  | .suspending sector _ _ _ _ => if t.reading ∨ t.keptRun.isSome then s else riseTaken d sector s
  | _ => s

/-- R86, R121: the ready line of a device falls. -/
def readyFalls (d : Dev) (s : State) : State := dropReading d { s with readyLine := s.readyLine.set d false }

/-- R203, R206: DEFAULT_POLICIES. -/
def applyDefaultPolicies (s : State) : State :=
  { s with policy := { dev0 := Policy.default, dev1 := Policy.default } }

/-- R204: CLEAR_OVERLAY. -/
def applyClearOverlay (s : State) : State :=
  let s := stopFill .cleared (cancelCommitWith cancelSoftReset s)
  { switchBanks (emptyStaged s) with ptr := { slot := 0, offset := 0 } }

/-- R205, R166: CLEAR_NOTICES. DESIGN CHOICE (log 36): every tally becomes 0, that of a COMMIT_CANCELLED posted by the same
SOFT_RESET among them, as R166, R205 and example 11.10 have it; R45 has that one "still tallied". -/
def applyClearNotices (s : State) : State :=
  { s with notices := { s.notices with queue := [], tally := Vector.replicate 18 0, overflow := 0 } }

/-- R207, R179: RELOAD. -/
def applyReload (s : State) : State :=
  let s := stopFill .cleared (cancelCommitWith cancelSoftReset s)
  let s := { s with host := { s.host with loadHold := true } }
  loaderAttends (emptyStaged (setLoader (.waiting .reload s.clock) s))

end Sys2Proof.Machine
end

