-- ==== Sys2Proof/Machine/LinkUnit.lean ====
section
/-! DEFINITION. The management link (11_management_link.md): the receiver, the common checks, the processing of requests
and their responses, with the requests of the lock map, the policies, the notice unit, the tracker and the link itself. -/

namespace Sys2Proof.Machine

/-! ### Requests -/

/-- GET_IDENTITY (R200). -/
def cmdGetIdentity (args : List Byte) (s : State) : Reply × State :=
  if args.length ≠ 0 then ((.badArg, []), s)
  else ((.ok, be16 Config.partCode ++ be8 Config.revision ++ be16 Config.slots ++ be8 Config.positions
    ++ be8 (if s.straps.twoDevices then 2 else 1)), s)

/-- GET_STATUS (R201, R202). -/
def cmdGetStatus (args : List Byte) (s : State) : Reply × State :=
  if args.length ≠ 0 then ((.badArg, []), s) else ((.ok, summaryBytes s), s)

/-- R203: the flags of a SOFT_RESET applied in their order. -/
def applyFlags (flags : Nat) (s : State) : State :=
  let s := if flags % 2 = 1 then applyClearOverlay s else s
  let s := if flags / 2 % 2 = 1 then applyClearNotices s else s
  let s := if flags / 4 % 2 = 1 then applyDefaultPolicies s else s
  if flags / 8 % 2 = 1 then applyReload s else s

/-- SOFT_RESET (R203). -/
def cmdSoftReset (args : List Byte) (s : State) : Reply × State :=
  if args.length ≠ 1 then ((.badArg, []), s)
  else if argField args 0 1 > 15 then ((.badArg, []), s)
  else ((.ok, []), applyFlags (argField args 0 1) s)

/-- READ_TRACKER (R91). -/
def cmdReadTracker (args : List Byte) (s : State) : Reply × State :=
  if args.length ≠ 1 then ((.badArg, []), s)
  else match devOfNumber (argField args 0 1) with
    | none => ((.badArg, []), s)
    | some d => ((.ok, recordBytes (s.tracker.get d).record), s)

/-- R94, R96: the range of sectors a request names is refused. -/
def sectorRangeFails (first count : Nat) : Bool :=
  decide (first > 511) || decide (count = 0) || decide (count > 512) || decide (first + count - 1 > 511)

/-- SET_LOCK (R94, R95). DESIGN CHOICE (log 43): refused at check 4 its payload is empty, as R194 has it; the skipped count of
0 that R94 gives a refused SET_LOCK comes with R94's own four checks. -/
def cmdSetLock (args : List Byte) (s : State) : Reply × State :=
  if args.length ≠ 5 then ((.badArg, []), s)
  else
    let first := argField args 0 2
    let count := argField args 2 2
    if sectorRangeFails first count then ((.badArg, be16 0), s)
    else match lockOf (argField args 4 1) with
      | none => ((.badArg, be16 0), s)
      | some l =>
        let skipped := skippedCount s first count
        ((if skipped = 0 then .ok else .refusedState, be16 skipped), applyLock first count l s)

/-- READ_LOCKS (R96). -/
def cmdReadLocks (args : List Byte) (s : State) : Reply × State :=
  if args.length ≠ 4 then ((.badArg, []), s)
  else
    let first := argField args 0 2
    let count := argField args 2 2
    if sectorRangeFails first count then ((.badArg, []), s)
    else ((.ok, (List.range count).flatMap fun k => be8 (lockAt s (first + k)).code), s)

/-- SET_POLICY (R107). -/
def cmdSetPolicy (args : List Byte) (s : State) : Reply × State :=
  if args.length ≠ 14 then ((.badArg, []), s)
  else match devOfNumber (argField args 0 1), policyOfArgs args with
    | some d, some p => ((.ok, []), { s with policy := s.policy.set d p })
    | _, _ => ((.badArg, []), s)

/-- READ_POLICY (R108). -/
def cmdReadPolicy (args : List Byte) (s : State) : Reply × State :=
  if args.length ≠ 1 then ((.badArg, []), s)
  else match devOfNumber (argField args 0 1) with
    | none => ((.badArg, []), s)
    | some d => ((.ok, policyBytes (s.policy.get d)), s)

/-- POP_NOTICES (R161). -/
def cmdPopNotices (args : List Byte) (s : State) : Reply × State :=
  if args.length ≠ 1 then ((.badArg, []), s)
  else
    let n := argField args 0 1
    if n = 0 ∨ n > 32 then ((.badArg, []), s)
    else
      let taken := s.notices.queue.take n
      let left := s.notices.queue.drop n
      ((.ok, be8 left.length ++ be8 taken.length ++ taken.flatMap noticeBytes),
        { s with notices := { s.notices with queue := left } })

/-- READ_TALLIES (R162). -/
def cmdReadTallies (args : List Byte) (s : State) : Reply × State :=
  if args.length ≠ 0 then ((.badArg, []), s)
  else ((.ok, s.notices.tally.toList.flatMap be8 ++ be8 s.notices.overflow
    ++ s.notices.enabled.toList.flatMap fun b => be8 (boolNat b)), s)

/-- CLEAR_TALLIES (R163). -/
def cmdClearTallies (args : List Byte) (s : State) : Reply × State :=
  if args.length ≠ 0 then ((.badArg, []), s)
  else ((.ok, []), { s with notices := { s.notices with tally := Vector.replicate 18 0, overflow := 0 } })

/-- SET_NOTICE_ENABLE (R164). -/
def cmdSetNoticeEnable (args : List Byte) (s : State) : Reply × State :=
  if args.length ≠ 18 then ((.badArg, []), s)
  else match enableOfArgs args with
    | none => ((.badArg, []), s)
    | some e => ((.ok, []), { s with notices := { s.notices with enabled := e } })

/-! ### Processing (R191 to R193) -/

/-- The reply of a request whose processing ends in its first step. -/
def Served.of (r : Reply × State) : Served := .reply r.1 r.2

/-- R192, check 5 and check 4: the command's own work, by its code (R209). -/
def runCommand (f : Frame) (s : State) : Served :=
  if f.code = codeGetIdentity then .of (cmdGetIdentity f.args s)
  else if f.code = codeGetStatus then .of (cmdGetStatus f.args s)
  else if f.code = codeSoftReset then .of (cmdSoftReset f.args s)
  else if f.code = codeReadEntry then .of (cmdReadEntry f.args s)
  else if f.code = codeStageEntry then .of (cmdStageEntry f.args s)
  else if f.code = codeClearStaged then .of (cmdClearStaged f.args s)
  else if f.code = codeCopyActive then .of (cmdCopyActive f.args s)
  else if f.code = codeCommit then .of (cmdCommit f.args s)
  else if f.code = codeCancelCommit then .of (cmdCancelCommit f.args s)
  else if f.code = codeSetStorePointer then .of (cmdSetStorePointer f.args s)
  else if f.code = codeWriteStore then cmdWriteStore f.args s
  else if f.code = codeReadStore then cmdReadStore f.args s
  else if f.code = codeFill then .of (cmdFill f.args s)
  else if f.code = codeAbortFill then .of (cmdAbortFill f.args s)
  else if f.code = codeReadTracker then .of (cmdReadTracker f.args s)
  else if f.code = codeSetLock then .of (cmdSetLock f.args s)
  else if f.code = codeReadLocks then .of (cmdReadLocks f.args s)
  else if f.code = codeSetPolicy then .of (cmdSetPolicy f.args s)
  else if f.code = codeReadPolicy then .of (cmdReadPolicy f.args s)
  else if f.code = codePopNotices then .of (cmdPopNotices f.args s)
  else if f.code = codeReadTallies then .of (cmdReadTallies f.args s)
  else if f.code = codeClearTallies then .of (cmdClearTallies f.args s)
  else if f.code = codeSetNoticeEnable then .of (cmdSetNoticeEnable f.args s)
  else .reply (.badCommand, []) s

/-- R193: the commands processed while the loader runs. -/
def loaderAnswers (code : Byte) : Bool := code == codeGetIdentity || code == codeGetStatus || code == codePopNotices

/-- R192: the common checks in their order, then the command. -/
def serve (f : Frame) (s : State) : Served :=
  if ¬ f.checkOk then .reply (.badFrame, []) s
  else if ¬ knownCodes.contains f.code then .reply (.badCommand, []) s
  else if loaderRunning s ∧ ¬ loaderAnswers f.code then .reply (.notReady, []) s
  else runCommand f s

/-- R191: a response is placed in the slot with its output position at the first byte. -/
def placeResponse (r : Response) (s : State) : State :=
  { s with link := { s.link with slot := some { response := r, position := 0 } } }

/-- R191: a frame becomes the request in processing. -/
def beginProcessing (f : Frame) (s : State) : State :=
  match serve f s with
  | .reply r s => placeResponse { tag := f.tag, status := r.1, payload := r.2 } s
  | .working w s => { s with link := { s.link with processing := some { frame := f, superseded := false, work := w } } }

/-- R188, R189, R191: the processing of a store request ends with a reply: the response is placed or, when superseded,
discarded; a pending response is placed; the waiting frame is processed in its turn. -/
def endProcessing (p : Processing) (r : Reply) (s : State) : State :=
  let s := { s with link := { s.link with processing := none } }
  let s := if p.superseded then s else placeResponse { tag := p.frame.tag, status := r.1, payload := r.2 } s
  let s := match s.link.pendingResponse with
    | some q => placeResponse q { s with link := { s.link with pendingResponse := none } }
    | none => s
  match s.link.waiting with
  | some f => beginProcessing f { s with link := { s.link with waiting := none } }
  | none => s

/-- R50, R54, R55: one management access taken at the port. -/
def managementAccess (p : Processing) (s : State) : State :=
  match storeWork p.work s with
  | .reply r s => endProcessing p r s
  | .working w s => { s with link := { s.link with processing := some { p with work := w } } }

/-! ### The receiver (R185 to R190) -/

/-- R188, R189: a start byte received in HUNT. -/
def startByte (s : State) : State :=
  let processing := s.link.processing.map fun p => { p with superseded := true }
  if s.link.waiting.isSome then
    { s with link := { s.link with receiver := .discarding, processing := processing } }
  else
    { s with link := { s.link with receiver := .receiving, frameBuffer := some [], processing := processing,
                                   slot := none, pendingResponse := none } }

/-- R189: a frame is complete: it becomes the request in processing, or the waiting frame. -/
def frameComplete (f : Frame) (s : State) : State :=
  let s := { s with link := { s.link with receiver := .hunt, frameBuffer := none } }
  if s.link.processing.isSome then { s with link := { s.link with waiting := some f } }
  else beginProcessing f s

/-- R188: a frame whose argument length is above 1,024 cannot be received. -/
def frameTooLong (tag : Byte) (s : State) : State :=
  let r : Response := { tag := tag, status := .badFrame, payload := [] }
  let s := { s with link := { s.link with receiver := .discarding, frameBuffer := none } }
  if s.link.processing.isSome then { s with link := { s.link with pendingResponse := some r } }
  else placeResponse r s

/-- R187: the argument length of a frame whose first four bytes are in the buffer. -/
def frameLength (b : List Byte) : Nat := beNat ((b.drop 2).take 2)

/-- R187, R192: the frame that the bytes from the command code to the check value make. -/
def frameOf (b : List Byte) : Frame :=
  let n := frameLength b
  { code := b.getD 0 0, tag := b.getD 1 0, args := (b.drop 4).take n,
    checkOk := be16 (crcBytes (b.take (4 + n))).toNat == b.drop (4 + n) }

/-- R185: the frame buffer holds the bytes received so far. -/
def setBuffer (b : List Byte) (s : State) : State := { s with link := { s.link with frameBuffer := some b } }

/-- R188, R189: `b` is the frame buffer with the byte just received: more bytes are wanted, the frame is too long to be
received, or it is complete. -/
def takeFrameBytes (b : List Byte) (s : State) : State :=
  if b.length < 4 then setBuffer b s
  else if frameLength b > Config.argumentLimit then frameTooLong (b.getD 1 0) s
  else if b.length < frameLength b + 6 then setBuffer b s
  else frameComplete (frameOf b) s

/-- R185, R188: the receiver takes one byte. -/
def receiveByte (x : Byte) (s : State) : State :=
  match s.link.receiver with
  | .init => s
  | .hunt => if x = 0xA6 then startByte s else s
  | .receiving => takeFrameBytes (s.link.frameBuffer.getD [] ++ [x]) s
  | .discarding => s

/-- R197, R198: what is left in the slot by a byte time that sends the byte at the output position: the position advances,
and with the second byte of the check value sent the response is taken. -/
def clockOut : Option ResponseSlot → Option ResponseSlot
  | some x =>
    if x.position + 1 < x.response.bytes.length then some { x with position := x.position + 1 } else none
  | none => none

/-- R197: a byte time sends the byte at the output position. -/
def sendByte (s : State) : State := { s with link := { s.link with slot := clockOut s.link.slot } }

/-- A number of byte times in which the receiver takes no notice of what it receives. -/
def sendBytes : Nat → State → State
  | 0, s => s
  | n + 1, s => sendBytes n (sendByte s)

/-- R184, R186, R197: a byte time carries one byte in each direction: the one at the output position goes out, and `x`
comes in. -/
def byteTime (x : Byte) (s : State) : State := receiveByte x (sendByte s)

/-- Byte times one after another. -/
def receiveBytes (l : List Byte) (s : State) : State := l.foldl (fun s x => byteTime x s) s

/-- R187 to R189: the byte times of a frame, `bytes` those from the command code on. Of a frame begun by
START_BYTE_RECEIVED the row brings every byte after that; any other row brings its start byte too (log 8). -/
def receiveFrame (bytes : List Byte) (s : State) : State :=
  match s.link.receiver with
  | .receiving => receiveBytes bytes (setBuffer [] s)
  | _ => receiveBytes (0xA6 :: bytes) s

/-- R187: a request frame whose check value matches. -/
def request (code tag : Byte) (args : List Byte) (s : State) : State :=
  receiveFrame (frameBody code tag args ++ be16 (crcBytes (frameBody code tag args)).toNat) s

/-- A check value that does not match: BAD_FRAME names no bytes of its frame but the tag, so the frame has code 0 and no
arguments, which R192 does not look at (log 8). -/
def damagedFrame (tag : Byte) (s : State) : State :=
  receiveFrame (frameBody 0 tag [] ++ be16 (crcBytes (frameBody 0 tag []) ^^^ 1).toNat) s

/-- R188: a frame that ends for the receiver with an argument length of 1,025. -/
def overlongFrame (tag : Byte) (s : State) : State := receiveFrame [0, tag, 0x04, 0x01] s

/-- R186, R190: LSEL_N is deasserted. -/
def deselect (s : State) : State :=
  let receiver := match s.link.receiver with
    | .receiving => .hunt
    | .discarding => .hunt
    | r => r
  { s with link := { s.link with receiver := receiver, frameBuffer := none,
                                 slot := s.link.slot.map fun x => { x with position := 0 } } }

/-- R186: the byte LDO carries in the next byte time. -/
def ldo (s : State) : Byte :=
  match s.link.slot with
  | some x => (x.response.bytes).getD x.position 0
  | none => 0

/-- R198: the response in the slot is clocked out to its last byte, in byte times in which the controller sends no start
byte (log 9). -/
def sendResponse (s : State) : State :=
  match s.link.slot with
  | some x => sendBytes x.response.bytes.length s
  | none => s

end Sys2Proof.Machine
end

