-- ==== Sys2Proof/Machine/Arbiter.lean ====
section
/-! DEFINITION. The memory face arbiter (08_memory_face_arbitration.md) and the store port's choice (R50). -/

namespace Sys2Proof.Machine

/-! ### The grant (R148) -/

/-- R148: the device has a tracker service request that no earlier host path transaction of the device holds back. -/
def serviceGrantable (s : State) (d : Dev) : Bool :=
  match s.service.get d with
  | some q => q.behind == 0
  | none => false

def otherDev : Dev → Dev
  | .dev0 => .dev1
  | .dev1 => .dev0

/-- R148: the device whose tracker service request is granted; `first` where either may be. -/
def serviceChoice (first : Dev) (s : State) : Option Dev :=
  if serviceGrantable s first then some first
  else if serviceGrantable s (otherDev first) then some (otherDev first)
  else none

/-- R120: the forwarding of a SUSPEND of the part. -/
def suspendForwarded (d : Dev) (s : State) : State :=
  match (s.tracker.get d).record with
  | .busyErase sector target (some e) =>
    let s := setRecord d (.suspending sector target .part false (some { e with count := e.count + 1 })) s
    let s := modController d (fun k => { k with suspendTimer := some s.clock }) s
    match s.host.transaction with
    | .read r =>
      match r.stage with
      | .stalled since .suspendRaised => if devOf r.addr = d then stallRead since .suspending r s else s
      | _ => s
    | _ => s
  | _ => s

/-- R124, R126, R180: the forwarding of a RESUME that is not cleanup's: the record becomes BUSY_ERASE at once, and a
burst stalled in SUSPENDING is decided afresh. DESIGN CHOICE (log 46): one that had fallen to miss_policy in BUSY_ERASE before
(R113) is decided afresh with it. -/
def resumeGranted (d : Dev) (s : State) : State :=
  match (s.tracker.get d).record with
  | .suspended sector target _ _ e =>
    resolveStalled d (setRecord d (.busyErase sector target e) (disarm d (resumeForwarded d s)))
  | _ => s

/-- R89: the forwarding of a cleanup RESUME becomes the last resume; the record keeps its state until the write ends. -/
def cleanupResumeGranted (d : Dev) (s : State) : State := disarm d (resumeForwarded d s)

/-- What comes about at the forwarding of a tracker service request. -/
def serviceForwarded (d : Dev) (w : ServiceWork) (s : State) : State :=
  match w with
  | .statusRead _ => s
  | .suspend => suspendForwarded d s
  | .resume .cleanup => cleanupResumeGranted d s
  | .resume .timers => resumeGranted d s
  | .resume .pendingResume => resumeGranted d s
  | .resume .loader => resumeGranted d s
  | .arrayWrite _ => s

/-- R20, R21: the details of SHADOWED_WRITE. -/
def shadowProgram : Word := 1
def shadowErase : Word := 2

/-- R20, R21: one SHADOWED_WRITE notice. -/
def postShadowed (d : Dev) (addr : Nat) (detail : Word) (s : State) (position : Nat) : State :=
  post { kind := .shadowedWrite, device := some d, address := some addr, entry := some position, detail := detail } s

/-- R20, R21: the positions of the entries that shadow a forwarded pair, in ascending order. -/
def shadowingPositions (b : ActiveBank) (erase : Bool) (addr heldAddr : Nat) : List Nat :=
  ((activeEntries b).filter fun p => p.2.shadows
    && (if erase then p.2.intersects (sectorOf heldAddr) else p.2.covers (lineOf addr))).map (·.1)

/-- R73, R119: what the forwarding of an erase's pair sets. -/
def eraseForwarded (d : Dev) (s : State) : State :=
  match (s.tracker.get d).record with
  | .busyErase sector target _ =>
    modController d (fun _ => { Controller.lapsed with lastResume := some s.clock })
      (setRecord d (.busyErase sector target
        (some { count := 0, snapshot := (s.policy.get d).budget, disabled := false })) s)
  | _ => s

/-- R149: a miss decision deferred behind the pair is made at its grant. -/
def deferredDecision (d : Dev) (s : State) : State :=
  match s.host.transaction with
  | .read r => if r.stage = .deferred ∧ devOf r.addr = d then missDecision s.clock r s else s
  | _ => s

/-- R73, R149: what comes about at the forwarding of a command pair. DESIGN CHOICE (log 19): the SHADOWED_WRITE notices are
taken before the BUDGET_SPENT of a decision deferred to this grant. -/
def pairForwarded (heldAddr : Nat) (heldWord : Word) (addr : Nat) (s : State) : State :=
  let d := devOf heldAddr
  let erase := decide (heldWord = Config.eraseWord)
  let s := (shadowingPositions s.active erase addr heldAddr).foldl
    (postShadowed d addr (if erase then shadowErase else shadowProgram)) s
  deferredDecision d (if erase then eraseForwarded d s else s)

/-- R125: the forwarding of a missed or TRAP burst restarts a running resume_idle timer. -/
def restartIdle (d : Dev) (s : State) : State :=
  modController d (fun k => { k with idleTimer := k.idleTimer.map fun _ => s.clock }) s

/-- R79, R81, R122: what comes about at the forwarding of a host command word. DESIGN CHOICE (log 48): a host SUSPEND
forwarded after a rise was taken in SUSPENDING starts no suspend timer while the status read of that rise decides the record,
and starts it where a fall has dropped that reading. -/
def hostWordForwarded (d : Dev) (word : Word) (s : State) : State :=
  if word = Config.suspendWord then
    match (s.tracker.get d).record with
    | .suspending .. =>
      if (s.tracker.get d).reading then s else modController d (fun k => { k with suspendTimer := some s.clock }) s
    | _ => s
  else if word = Config.resumeWord then modController d (fun k => { k with lastResume := some s.clock }) s
  else s

/-- What comes about at the forwarding of a host path transaction. -/
def hostForwarded (t : HostTxn) (s : State) : State :=
  match t with
  | .read a _ bypass discard => if bypass || discard then s else restartIdle (devOf a) s
  | .write a w => hostWordForwarded (devOf a) w s
  | .pair ha hw a _ => pairForwarded ha hw a s

/-- R148: a host path transaction of device `d` has left the list, and the device's tracker request is one place nearer. -/
def serviceNearer (d : Dev) (s : State) : State :=
  { s with service := s.service.set d ((s.service.get d).map fun q => { q with behind := q.behind - 1 }) }

/-- R146, R148: the arbiter grants the first grantable request. DESIGN CHOICE (log 44): at the grant of a command pair the miss
decision deferred to it is made first, and a host write that the path alone held back is taken after. -/
def grant (first : Dev) (s : State) : State :=
  if s.bus.isSome then s
  else match serviceChoice first s with
    | some d =>
      match s.service.get d with
      | some q => serviceForwarded d q.work { clearService d s with bus := some (.service d q.work q.addr) }
      | none => s
    | none =>
      match s.hostPath with
      | t :: rest =>
        let s := serviceNearer t.dev { s with hostPath := rest, bus := some (.host t) }
        retakeKept t.dev (hostForwarded t s)
      | [] =>
        match loaderRequest s with
        | some (addr, n) => { s with bus := some (.loader addr n) }
        | none =>
          match fillRequest s with
          | some line =>
            match s.fill.job with
            | some j =>
              { s with bus := some (.fill (line * Config.lineWords))
                       fill := { s.fill with job := some { j with stage := .reading } } }
            | none => s
          | none => s

/-! ### The end of a transaction (R145) -/

/-- The first `n` words of those the device returned. -/
def firstWords (words : LineWords) (n : Nat) : List Word := words.toList.take n

/-- R89, R180: the end of a cleanup ARRAY write, or of the loader's, moves the record and takes the kept writes. A loader's
write that a host reset has met on the bus stood for the cleanup write (log 32). -/
def arrayWriteEnds (d : Dev) (s : State) : State :=
  releaseKept d
    (match (s.tracker.get d).record with
    | .status _ => setRecord d .array s
    | _ => s)

/-- R85, R89, R180: a RESUME of the tracker service has ended: the next rise is a completion; cleanup's moves the record, and
the writes kept for cleanup's or the loader's are taken. -/
def resumeEnds (cause : ResumeCause) (d : Dev) (s : State) : State :=
  let s := arm d s
  match cause with
  | .cleanup =>
    releaseKept d
      (match (s.tracker.get d).record with
      | .suspended sector target _ _ e => setRecord d (.busyErase sector target e) s
      | _ => s)
  | .loader => releaseKept d s
  | .timers => s
  | .pendingResume => s

/-- What comes about at the end of a tracker service transaction. -/
def serviceEnds (d : Dev) (w : ServiceWork) (words : LineWords) (s : State) : State :=
  match w with
  | .statusRead discard => if discard then s else statusReadEnds d words[0] s
  | .suspend => s
  | .resume cause => resumeEnds cause d s
  | .arrayWrite _ => arrayWriteEnds d s

/-- R134, R135, R141: a burst's device words are answered, or discarded when it was dropped; a RESUME that waited for the
read's end is raised (R126). -/
def hostReadEnds (a n : Nat) (discard : Bool) (words : LineWords) (s : State) : State :=
  let s := if discard then s else match s.host.transaction with
    | .read r => completeRead r (firstWords words n) s
    | _ => s
  raiseCalledResume (devOf a) s

/-- What comes about at the end of a host path transaction. -/
def hostEnds (t : HostTxn) (words : LineWords) (s : State) : State :=
  match t with
  | .read a n _ discard => hostReadEnds a n discard words s
  | .write a w => if w = Config.resumeWord then arm (devOf a) s else s
  | .pair a _ _ _ => arm (devOf a) s

/-- R145: the transaction in progress ends and the bus becomes FREE. -/
def transactionEnds (words : LineWords) (s : State) : State :=
  match s.bus with
  | none => s
  | some t =>
    let s := { s with bus := none }
    match t with
    | .service d w _ => serviceEnds d w words s
    | .host t => hostEnds t words s
    | .loader _ n => loaderWords (firstWords words n) s
    | .fill _ => fillLineRead words s

/-! ### The store port (R50) -/

/-- R50: the waiting access of the highest requester. -/
inductive PortAccess where
  /-- The access of a dropped burst, its word discarded (R141). -/
  | dropped
  | hit (r : ReadRecord) (slot k : Nat)
  | follow (run : FollowRun)
  | verify (f : InFlight) (c : Cursor)
  | fill (j : FillJob) (buffer : LineWords) (offset : Nat)
  | loader (origin : LoadOrigin) (index position : Nat) (buffer : List Word) (written : Nat)
  | management (p : Processing)
  deriving DecidableEq, Repr

/-- First place: the read path. -/
def readPathAccess (s : State) : Option PortAccess :=
  if s.host.dropped.isSome then some .dropped
  else match s.host.transaction with
    | .read r =>
      match r.stage, r.cls with
      | .store, .hit _ (.replace slot _ _) k => some (.hit r slot k)
      | _, _ => none
    | _ => none

/-- Third place: commit verification. DESIGN CHOICE (log 37): the access waits as long as the unit is in VERIFYING, so a
cancellation leaves none at the port. -/
def verifyAccess (s : State) : Option PortAccess :=
  match s.commit with
  | .verifying f c => some (.verify f c)
  | _ => none

/-- Fourth place: the fill engine. -/
def fillAccess (s : State) : Option PortAccess :=
  match s.fill.job with
  | some j =>
    match j.stage with
    | .writing buffer offset => some (.fill j buffer offset)
    | _ => none
  | none => none

/-- Fifth place: the start-up loader. -/
def loaderAccess (s : State) : Option PortAccess :=
  match s.loader.state with
  | .applying origin index position buffer written => some (.loader origin index position buffer written)
  | _ => none

/-- R50: the waiting accesses in the order of their requesters; the port takes the first. -/
def portChoice (s : State) : Option PortAccess :=
  (readPathAccess s).orElse fun _ =>
  (s.follow.current.map PortAccess.follow).orElse fun _ =>
  (verifyAccess s).orElse fun _ =>
  (fillAccess s).orElse fun _ =>
  (loaderAccess s).orElse fun _ =>
  s.link.processing.map PortAccess.management

/-- R50: an access applied whole. -/
def takeAccess (a : PortAccess) (s : State) : State :=
  match a with
  | .dropped => { s with host := { s.host with dropped := none } }
  | .hit r slot k => readStoreWord r slot k s
  | .follow run => followWrite run s
  | .verify f c => takeHeld (loaderFollows (verifyWord f c s))
  | .fill j buffer offset => fillWrite j buffer offset s
  | .loader origin index position buffer written => loaderWrite origin index position buffer written s
  | .management p => managementAccess p s

/-- R50: the store port takes the waiting access of the highest requester. -/
def portAccess (s : State) : State :=
  match portChoice s with
  | some a => takeAccess a s
  | none => s

end Sys2Proof.Machine
end

