-- ==== Sys2Proof/Machine/LinkRows.lean ====
section
/-! DEFINITION. The meanings of the management link's rows: every request is a whole frame received (R187 to R193). -/

namespace Sys2Proof.Machine

/-- What a meaning answers. -/
abbrev Out := Host.Outcome State Fault Refusal

/-- GET_IDENTITY (R200): a valid frame with its code. -/
def execGetIdentity (tag : Byte) (args : List Byte) (s : State) : Out := .next (request codeGetIdentity tag args s)

/-- GET_STATUS (R201, R202): a valid frame with its code. -/
def execGetStatus (tag : Byte) (args : List Byte) (s : State) : Out := .next (request codeGetStatus tag args s)

/-- READ_ENTRY (R22, R23): a valid frame with its code. -/
def execReadEntry (tag : Byte) (args : List Byte) (s : State) : Out := .next (request codeReadEntry tag args s)

/-- STAGE_ENTRY (R30): a valid frame with its code. -/
def execStageEntry (tag : Byte) (args : List Byte) (s : State) : Out := .next (request codeStageEntry tag args s)

/-- CLEAR_STAGED (R31): a valid frame with its code. -/
def execClearStaged (tag : Byte) (args : List Byte) (s : State) : Out := .next (request codeClearStaged tag args s)

/-- COPY_ACTIVE (R32): a valid frame with its code. -/
def execCopyActive (tag : Byte) (args : List Byte) (s : State) : Out := .next (request codeCopyActive tag args s)

/-- COMMIT (R34): a valid frame with its code. -/
def execCommit (tag : Byte) (args : List Byte) (s : State) : Out := .next (request codeCommit tag args s)

/-- CANCEL_COMMIT (R43): a valid frame with its code. -/
def execCancelCommit (tag : Byte) (args : List Byte) (s : State) : Out := .next (request codeCancelCommit tag args s)

/-- SET_STORE_POINTER (R52): a valid frame with its code. -/
def execSetStorePointer (tag : Byte) (args : List Byte) (s : State) : Out := .next (request codeSetStorePointer tag args s)

/-- WRITE_STORE (R54): a valid frame with its code. -/
def execWriteStore (tag : Byte) (args : List Byte) (s : State) : Out := .next (request codeWriteStore tag args s)

/-- READ_STORE (R55): a valid frame with its code. -/
def execReadStore (tag : Byte) (args : List Byte) (s : State) : Out := .next (request codeReadStore tag args s)

/-- FILL (R57): a valid frame with its code. -/
def execFill (tag : Byte) (args : List Byte) (s : State) : Out := .next (request codeFill tag args s)

/-- ABORT_FILL (R62): a valid frame with its code. -/
def execAbortFill (tag : Byte) (args : List Byte) (s : State) : Out := .next (request codeAbortFill tag args s)

/-- READ_TRACKER (R91): a valid frame with its code. -/
def execReadTracker (tag : Byte) (args : List Byte) (s : State) : Out := .next (request codeReadTracker tag args s)

/-- SET_LOCK (R94, R95): a valid frame with its code. -/
def execSetLock (tag : Byte) (args : List Byte) (s : State) : Out := .next (request codeSetLock tag args s)

/-- READ_LOCKS (R96): a valid frame with its code. -/
def execReadLocks (tag : Byte) (args : List Byte) (s : State) : Out := .next (request codeReadLocks tag args s)

/-- SET_POLICY (R107): a valid frame with its code. -/
def execSetPolicy (tag : Byte) (args : List Byte) (s : State) : Out := .next (request codeSetPolicy tag args s)

/-- READ_POLICY (R108): a valid frame with its code. -/
def execReadPolicy (tag : Byte) (args : List Byte) (s : State) : Out := .next (request codeReadPolicy tag args s)

/-- POP_NOTICES (R161): a valid frame with its code. -/
def execPopNotices (tag : Byte) (args : List Byte) (s : State) : Out := .next (request codePopNotices tag args s)

/-- READ_TALLIES (R162): a valid frame with its code. -/
def execReadTallies (tag : Byte) (args : List Byte) (s : State) : Out := .next (request codeReadTallies tag args s)

/-- CLEAR_TALLIES (R163): a valid frame with its code. -/
def execClearTallies (tag : Byte) (args : List Byte) (s : State) : Out := .next (request codeClearTallies tag args s)

/-- SET_NOTICE_ENABLE (R164): a valid frame with its code. -/
def execSetNoticeEnable (tag : Byte) (args : List Byte) (s : State) : Out := .next (request codeSetNoticeEnable tag args s)

/-- SOFT_RESET (R203 to R208). A reload it starts acts on device 0's record as R180 gives. -/
def execSoftReset (tag : Byte) (args : List Byte) (s : State) : Out := .next (request codeSoftReset tag args s)

/-- BAD_COMMAND (R192): a valid frame whose code is none of Formats'. -/
def execBadCommand (code tag : Byte) (args : List Byte) (s : State) : Out := .next (request code tag args s)

/-- BAD_FRAME (R188, R192): a frame whose check value does not match, or whose argument length is above 1,024. -/
def execBadFrame (tag : Byte) (cause : BadFrameCause) (s : State) : Out :=
  match cause with
  | .checkMismatch => .next (damagedFrame tag s)
  | .argumentLength => .next (overlongFrame tag s)

/-- START_BYTE_RECEIVED (R188, R189, R197): a byte time in which 0xA6 is received; in RECEIVING it is a byte of the frame. -/
def execStartByteReceived (s : State) : Out := .next (byteTime 0xA6 s)

/-- RESPONSE_TAKEN (R197, R198): the response is clocked out, and the slot is then empty. -/
def execResponseTaken (s : State) : Out := .next (sendResponse s)

/-- LSEL_N_DEASSERTED (R186, R190). -/
def execLselNDeasserted (s : State) : Out := .next (deselect s)

/-- The application of one SOFT_RESET flag as a row of its own. DESIGN CHOICE (log 10): where no SOFT_RESET can be
processed, the loader running (R193) or a store request in processing (R191), the row changes nothing. -/
def applyFlag (f : State → State) (s : State) : State :=
  if loaderRunning s || s.link.processing.isSome then s else f s

/-- CLEAR_OVERLAY (R204). -/
def execClearOverlay (s : State) : Out := .next (applyFlag applyClearOverlay s)

/-- CLEAR_NOTICES (R205). -/
def execClearNotices (s : State) : Out := .next (applyFlag applyClearNotices s)

/-- DEFAULT_POLICIES (R206). -/
def execDefaultPolicies (s : State) : Out := .next (applyFlag applyDefaultPolicies s)

/-- RELOAD (R207). -/
def execReload (s : State) : Out := .next (applyFlag applyReload s)

end Sys2Proof.Machine
end

