-- ==== Sys2Proof/Machine/EventRows.lean ====
section
/-! DEFINITION. The meanings of the rows of the host face, the array devices' ready lines, the arbiter, the store port,
the timers and power. A row whose occasion is not there leaves the state as it is (log 5). -/

namespace Sys2Proof.Machine

/-- R180: after an event, a waiting reload acts on device 0's record. -/
def attended (s : State) : Out := .next (loaderAttends s)

/-- R88: a device whose ready line is high at power-on leaves PROBE at once. -/
def probeAtPowerOn (d : Dev) (ready : Bool) (s : State) : State := if ready then readyRises d s else s

/-- POWER_ON_RESET (R178, R25, R129). -/
def execPowerOnReset (devcount bootsel hrstAsserted ready0 ready1 : Bool) (s : State) : Out :=
  .next (probeAtPowerOn .dev0 ready0
    (probeAtPowerOn .dev1 ready1 (State.powerOn devcount bootsel hrstAsserted ready0 ready1 s.pending)))

/-- HOST_RESET (R140): one event for each assertion; a second can only follow a release (R142). -/
def execHostReset (s : State) : Out :=
  if s.host.resetAsserted then .next s else attended (hostResets s)

/-- HRST_N_RELEASE (R143). -/
def execHrstNRelease (s : State) : Out := .next { s with host := { s.host with resetAsserted := false } }

/-- HOST_READ (R130, R132, R133). -/
def execHostRead (addr : BitVec 25) (len : BurstLength) (s : State) : Out :=
  .next (presentRead addr.toNat (burstWords len) s)

/-- HOST_WRITE (R130, R131). -/
def execHostWrite (addr : BitVec 25) (word : Word) (s : State) : Out :=
  attended (presentWrite addr.toNat word s)

/-- READY_LINE_RISES (R85, R88, R121). -/
def execReadyLineRises (d : Dev) (s : State) : Out := attended (readyRises d s)

/-- READY_LINE_FALLS (R86, R121). -/
def execReadyLineFalls (d : Dev) (s : State) : Out := .next (readyFalls d s)

/-- MEMORY_FACE_GRANT (R146, R148). -/
def execMemoryFaceGrant (first : Dev) (s : State) : Out := attended (grant first s)

/-- MEMORY_TRANSACTION_ENDS (R145). -/
def execMemoryTransactionEnds (words : LineWords) (s : State) : Out := attended (transactionEnds words s)

/-- STORE_PORT_ACCESS (R50). -/
def execStorePortAccess (s : State) : Out := attended (portAccess s)

/-- STALL_TIMEOUT (R117). -/
def execStallTimeout (s : State) : Out := .next (stallTimesOut s)

/-- SUSPEND_TIMEOUT (R122). -/
def execSuspendTimeout (d : Dev) (s : State) : Out := .next (suspendTimesOut d s)

/-- MIN_RUN_ELAPSES (R113). -/
def execMinRunElapses (s : State) : Out := .next (minRunEnds s)

/-- RESUME_IDLE_TIMER_EXPIRES (R125). -/
def execResumeIdleTimerExpires (d : Dev) (s : State) : Out := .next (idleTimerEnds d s)

/-- HOLD_MAX_TIMER_EXPIRES (R125). -/
def execHoldMaxTimerExpires (d : Dev) (s : State) : Out := .next (holdTimerEnds d s)

/-- COMMIT_EXPIRED (R42). -/
def execCommitExpired (s : State) : Out := .next (commitExpires s)

/-- PROBE_TIMEOUT (R178). -/
def execProbeTimeout (s : State) : Out := .next (probeTimesOut s)

/-- LOAD_BEGINS (R180). -/
def execLoadBegins (s : State) : Out := .next (loadBegins s)

end Sys2Proof.Machine
end

