-- ==== Sys2Proof/Machine/Dispatch.lean ====
section
/-! DEFINITION. One arm for each command. -/

namespace Sys2Proof.Machine

/-- The effect of a command on everything but the queue. -/
def exec (i : Instr) (s : State) : Host.Outcome State Fault Refusal :=
  match i with
  | .powerOnReset devcount bootsel hrstAsserted ready0 ready1 => Sys2Proof.Machine.execPowerOnReset devcount bootsel hrstAsserted ready0 ready1 s
  | .hostReset => Sys2Proof.Machine.execHostReset s
  | .hrstNRelease => Sys2Proof.Machine.execHrstNRelease s
  | .hostRead addr len => Sys2Proof.Machine.execHostRead addr len s
  | .hostWrite addr word => Sys2Proof.Machine.execHostWrite addr word s
  | .lselNDeasserted => Sys2Proof.Machine.execLselNDeasserted s
  | .badFrame tag cause => Sys2Proof.Machine.execBadFrame tag cause s
  | .badCommand code tag args => Sys2Proof.Machine.execBadCommand code tag args s
  | .getIdentity tag args => Sys2Proof.Machine.execGetIdentity tag args s
  | .getStatus tag args => Sys2Proof.Machine.execGetStatus tag args s
  | .clearOverlay => Sys2Proof.Machine.execClearOverlay s
  | .clearNotices => Sys2Proof.Machine.execClearNotices s
  | .defaultPolicies => Sys2Proof.Machine.execDefaultPolicies s
  | .reload => Sys2Proof.Machine.execReload s
  | .readEntry tag args => Sys2Proof.Machine.execReadEntry tag args s
  | .stageEntry tag args => Sys2Proof.Machine.execStageEntry tag args s
  | .clearStaged tag args => Sys2Proof.Machine.execClearStaged tag args s
  | .copyActive tag args => Sys2Proof.Machine.execCopyActive tag args s
  | .commit tag args => Sys2Proof.Machine.execCommit tag args s
  | .cancelCommit tag args => Sys2Proof.Machine.execCancelCommit tag args s
  | .setStorePointer tag args => Sys2Proof.Machine.execSetStorePointer tag args s
  | .writeStore tag args => Sys2Proof.Machine.execWriteStore tag args s
  | .readStore tag args => Sys2Proof.Machine.execReadStore tag args s
  | .fill tag args => Sys2Proof.Machine.execFill tag args s
  | .abortFill tag args => Sys2Proof.Machine.execAbortFill tag args s
  | .readTracker tag args => Sys2Proof.Machine.execReadTracker tag args s
  | .setLock tag args => Sys2Proof.Machine.execSetLock tag args s
  | .readLocks tag args => Sys2Proof.Machine.execReadLocks tag args s
  | .setPolicy tag args => Sys2Proof.Machine.execSetPolicy tag args s
  | .readPolicy tag args => Sys2Proof.Machine.execReadPolicy tag args s
  | .popNotices tag args => Sys2Proof.Machine.execPopNotices tag args s
  | .readTallies tag args => Sys2Proof.Machine.execReadTallies tag args s
  | .clearTallies tag args => Sys2Proof.Machine.execClearTallies tag args s
  | .setNoticeEnable tag args => Sys2Proof.Machine.execSetNoticeEnable tag args s
  | .readyLineRises d => Sys2Proof.Machine.execReadyLineRises d s
  | .readyLineFalls d => Sys2Proof.Machine.execReadyLineFalls d s
  | .memoryFaceGrant first => Sys2Proof.Machine.execMemoryFaceGrant first s
  | .memoryTransactionEnds words => Sys2Proof.Machine.execMemoryTransactionEnds words s
  | .storePortAccess => Sys2Proof.Machine.execStorePortAccess s
  | .stallTimeout => Sys2Proof.Machine.execStallTimeout s
  | .suspendTimeout d => Sys2Proof.Machine.execSuspendTimeout d s
  | .minRunElapses => Sys2Proof.Machine.execMinRunElapses s
  | .resumeIdleTimerExpires d => Sys2Proof.Machine.execResumeIdleTimerExpires d s
  | .holdMaxTimerExpires d => Sys2Proof.Machine.execHoldMaxTimerExpires d s
  | .commitExpired => Sys2Proof.Machine.execCommitExpired s
  | .probeTimeout => Sys2Proof.Machine.execProbeTimeout s
  | .loadBegins => Sys2Proof.Machine.execLoadBegins s
  | .softReset tag args => Sys2Proof.Machine.execSoftReset tag args s
  | .startByteReceived => Sys2Proof.Machine.execStartByteReceived s
  | .responseTaken => Sys2Proof.Machine.execResponseTaken s

end Sys2Proof.Machine
end

