-- ==== Sys2Proof/Safety.lean ====
section
/-! DEFINITION. What counts as a sound state and as an answered request, in the terms the statements use. -/

namespace Sys2Proof.Machine

/-! ### The management link -/

/-- R188, R189: the link begins a frame and processes it at once: HUNT, nothing waiting and nothing in processing. -/
abbrev LinkFree (s : State) : Prop :=
  s.link.receiver = .hunt ∧ s.link.waiting = none ∧ s.link.processing = none

/-- R193: the start-up loader is not running. -/
abbrev LoaderIdle (s : State) : Prop := s.loader.state = .idle

/-- R191: the link after a request has been answered: the receiver in HUNT, the response in the slot at its first byte. -/
def Link.answered (tag : Byte) (status : RespStatus) (payload : List Byte) : Link :=
  { receiver := .hunt, frameBuffer := none, waiting := none, processing := none,
    slot := some { response := { tag := tag, status := status, payload := payload }, position := 0 },
    pendingResponse := none }

/-- R191: the state once a request has been answered, nothing but the link changed. -/
def State.answered (tag : Byte) (status : RespStatus) (payload : List Byte) (s : State) : State :=
  { s with link := Link.answered tag status payload }

/-- R191: the state while a store request is in processing, nothing but the link changed. -/
def State.processing (f : Frame) (w : StoreWork) (s : State) : State :=
  { s with link := { receiver := .hunt, frameBuffer := none, waiting := none,
                     processing := some { frame := f, superseded := false, work := w },
                     slot := none, pendingResponse := none } }

/-- R192: a frame whose check value matches. -/
def goodFrame (code tag : Byte) (args : List Byte) : Frame := { code := code, tag := tag, args := args, checkOk := true }

/-! ### The host face -/

/-- R130: the host face takes a transaction at once. -/
abbrev HostReady (s : State) : Prop :=
  s.host.transaction = .none ∧ s.host.loadHold = false ∧ s.host.resetAsserted = false

/-- R87, R89: nothing holds back a write for the device's record. -/
abbrev TrackerSettled (s : State) (d : Dev) : Prop :=
  (s.tracker.get d).kept = [] ∧ stateUnsettled s d = false

/-- The state with the record of device `d` replaced. -/
def State.withRecord (d : Dev) (r : Record) (s : State) : State :=
  { s with tracker := s.tracker.set d { s.tracker.get d with record := r } }

/-- R132: the first word address of the aligned block a burst serves. -/
def burstBase (addr : BitVec 25) (len : BurstLength) : Nat := addr.toNat - addr.toNat % burstWords len

/-- R71, R74: SEQUENCE_REFUSED for a word at an address. -/
def refusedPosting (d : Dev) (addr : Nat) (word : Word) : Posting :=
  { kind := .sequenceRefused, device := some d, address := some addr, entry := none, detail := word }

/-- R180: no reload waits, so the loader has nothing to do to device 0's record. -/
abbrev LoaderQuiet (s : State) : Prop := ∀ since, s.loader.state ≠ .waiting .reload since

/-- R180: a reload waits at most with device 0's record in a state that gives the loader nothing more to do. -/
def LoaderPassive (s : State) : Prop :=
  ∀ since, s.loader.state = .waiting .reload since →
    match s.tracker.dev0.record with
    | .status sector => sector ≠ s.loader.bootSector ∨ ∃ q, s.service.dev0 = some q
    | .refused sector => sector ≠ s.loader.bootSector
    | .suspended _ _ .host _ _ => ∃ q, s.service.dev0 = some q
    | _ => True

/-- R117: a burst of device `d` is stalled since `since`. -/
def StalledBurst (s : State) (d : Dev) (r : ReadRecord) (since : Nat) (why : StallWhy) : Prop :=
  s.host.transaction = .read r ∧ r.stage = .stalled since why ∧ devOf r.addr = d

/-- R116: no burst of the device is stalled. -/
abbrev NothingStalled (s : State) (d : Dev) : Prop := ∀ r since why, ¬ StalledBurst s d r since why

/-- R8, R110: a bypass is forwarded at once, so what is stalled is none. -/
abbrev BypassesPass (s : State) (d : Dev) : Prop := ∀ r since why, StalledBurst s d r since why → r.cls ≠ .bypass

/-- R110, R116: the state once a missed or TRAP burst has been forwarded: its read at the end of the host path list. -/
def State.released (r : ReadRecord) (s : State) : State :=
  { s with
    host := { s.host with transaction := .read { r with stage := .forwarded } }
    hostPath := s.hostPath ++ [.read r.addr r.count false false] }

/-- R116: the state once the stalled burst of a device, if it has one, has been released. -/
def State.releases (d : Dev) (s : State) : State :=
  match s.host.transaction with
  | .read r =>
    match r.stage with
    | .stalled _ _ => if devOf r.addr = d then s.released r else s
    | _ => s
  | _ => s

/-- R112, R122: the state once the stalled burst of a device, if it has one, has fallen to miss_policy: stalled on as before
under STALL, forwarded under PASS. A burst that has fallen to it before is not decided again (R113). -/
def State.fallsToPolicy (d : Dev) (s : State) : State :=
  match s.host.transaction with
  | .read r =>
    match r.stage with
    | .stalled since why =>
      if devOf r.addr = d ∧ why ≠ .policy then
        match (s.policy.get d).missPolicy with
        | .stall => { s with host := { s.host with transaction := .read { r with stage := .stalled since .policy } } }
        | .pass => s.released r
      else s
    | _ => s
  | _ => s

/-- R87, R89, R131: the host waits for a write that the record of its device keeps, and for no other; `untilState` when it
waits for the record's state and not for the host path alone. -/
def State.keeping (addr : Nat) (word : Word) (untilState : Bool) (s : State) : State :=
  { s with
    host := { s.host with transaction := .write addr word }
    tracker := s.tracker.set (devOf addr) { s.tracker.get (devOf addr) with
      kept := [{ addr := addr, word := word, hostWaits := true, untilState := untilState }] } }

/-! ### The overlay banks -/

/-- R32: the entries of the ACTIVE bank without their hit counts. -/
def entriesOf (b : ActiveBank) : StagedBank := b.map fun e => e.map (·.entry)

/-- R38: a bank as ACTIVE at a switch, every hit count 0. -/
def freshBank (b : StagedBank) : ActiveBank := b.map fun e => e.map fun e => { entry := e, hitCount := 0 }

/-- R14: the state with one more hit counted on the entry `a` of a position. -/
def State.counted (position : Nat) (a : ActiveEntry) (s : State) : State :=
  let counted := { a with hitCount := if a.hitCount < 4294967295 then a.hitCount + 1 else a.hitCount }
  { s with active := s.active.setIfInBounds position (some counted) }

/-- R38: the state after a switch. -/
def State.switched (s : State) : State :=
  { s with
    active := freshBank s.staged
    generation := s.generation + 1
    commit := .idle
    notices := s.notices.post (timeBase s)
      { kind := .commitTaken, device := none, address := none, entry := none, detail := s.generation + 1 } }

/-- R177: the state after a load whose commit has ended, `count` its record count. -/
def State.loadDone (count : Nat) (s : State) : State :=
  { s with
    loader := { s.loader with state := .idle }
    host := { s.host with loadHold := false }
    notices := s.notices.post (timeBase s)
      { kind := .loadDone, device := some .dev0, address := none, entry := none, detail := BitVec.ofNat 16 count } }

/-- R139, R174, R177: `o` is what a row answers to `s` that ends a load and leaves `t` with the host face released: a
transaction held in `s` is then taken as one that arrives. -/
def ReleasesHost (s t : State) (o : Host.Outcome State Fault Refusal) : Prop :=
  ((∀ addr n, s.host.transaction ≠ .heldRead addr n) → (∀ addr word, s.host.transaction ≠ .heldWrite addr word) →
    o = .next { t with host := { s.host with loadHold := false } })
  ∧ (s.host.resetAsserted = false →
    let free : State := { t with host := { s.host with transaction := .none, loadHold := false } }
    (∀ addr len, s.host.transaction = .heldRead (BitVec.toNat (w := 25) addr) (burstWords len) →
      o = exec (.hostRead addr len) free)
    ∧ ∀ addr word, s.host.transaction = .heldWrite (BitVec.toNat (w := 25) addr) word →
      o = exec (.hostWrite addr word) free)

/-- R40, R41, R135, R177: `o` is what a row answers that completes a read of `line`, `done` being the state at the
completion. A commit that waits for the boundary switches, and a loader's is followed by the end of its load; one that
waits for its mark switches when the line is its mark and at no other. -/
def CompletesRead (line : Nat) (done : State) (o : Host.Outcome State Fault Refusal) : Prop :=
  (done.commit = .idle → o = .next done)
  ∧ (∀ f c, done.commit = .verifying f c → o = .next done)
  ∧ (∀ f, done.commit = .pendingBoundary f →
      ((∀ origin n, done.loader.state ≠ .committing origin n) → o = .next done.switched)
      ∧ ∀ origin n, done.loader.state = .committing origin n → o = .next (done.switched.loadDone n))
  ∧ ∀ f since mark expiry, done.commit = .pendingMark f since → f.mode = .atMark mark expiry →
      (∀ origin n, done.loader.state ≠ .committing origin n) →
      o = .next (if mark = line then done.switched else done)

/-- R6: the laws of the ACTIVE bank, on its entries. -/
structure Lawful (twoDevices : Bool) (b : StagedBank) : Prop where
  /-- No line is covered by two present entries. -/
  lines : ∀ i j p q line, stagedAt b i = some p → stagedAt b j = some q →
    p.covers line = true → q.covers line = true → i = j
  /-- No slot is referenced by two present REPLACE entries. -/
  slots : ∀ i j p q slot, stagedAt b i = some p → stagedAt b j = some q →
    p.references slot = true → q.references slot = true → i = j
  /-- The line range of every present entry lies within one installed device. -/
  devices : ∀ i p, stagedAt b i = some p → ∃ d : Dev, (d = .dev0 ∨ twoDevices = true) ∧
    ∀ line, p.covers line = true → line < Config.lines ∧ devOfLine line = d
  /-- Every slot a present entry references lies in the store. -/
  store : ∀ i p slot, stagedAt b i = some p → p.references slot = true → slot < Config.slots

/-- R47, R182: while the loader waits, reads or applies, no commit is in flight. -/
def LoaderBeforeCommit (s : State) : Prop :=
  match s.loader.state with
  | .waiting .. => s.commit = .idle
  | .reading .. => s.commit = .idle
  | .applying .. => s.commit = .idle
  | .idle => True
  | .committing .. => True

/-- R6, R29, R35: the ACTIVE bank obeys its laws, and so does the STAGED bank while a commit is in flight. -/
structure BanksSound (s : State) : Prop where
  active : Lawful s.straps.twoDevices (entriesOf s.active)
  staged : s.commit ≠ .idle → Lawful s.straps.twoDevices s.staged
  loader : LoaderBeforeCommit s

/-! ### The notice unit -/

/-- R156, R157, R159: at most 32 records, their sequences rising by one up to the next sequence, the tallies and the
overflow count at most 255. -/
structure NoticesSound (n : NoticeUnit) : Prop where
  length : n.queue.length ≤ Config.queueLimit
  sequences : ∀ k (h : k < n.queue.length), n.queue[k].sequence = n.next - BitVec.ofNat 16 (n.queue.length - k)
  tallies : ∀ k (h : k < 18), n.tally[k] ≤ 255
  overflow : n.overflow ≤ 255

/-! ### The overlay store -/

/-- R48, R52: the store in its canonical form, the store pointer at a place it can take, not at the end of store while a
store request has words left, and the fill engine's next word inside its line. -/
structure StoreSound (s : State) : Prop where
  store : s.store.wf = true
  slot : s.ptr.slot ≤ Config.slots
  offset : s.ptr.offset ≤ 15
  atEnd : s.ptr.slot = Config.slots → s.ptr.offset = 0
  working : s.link.processing ≠ none → s.ptr.slot ≠ Config.slots
  fill : ∀ j buffer offset, s.fill.job = some j → j.stage = .writing buffer offset → offset ≤ 15

/-! ### Whole machine -/

/-- The command sets the part to its power-on values. -/
abbrev IsPowerOn : Instr → Prop
  | .powerOnReset .. => True
  | _ => False

end Sys2Proof.Machine
end

