-- ==== Sys2Proof/Certificates/Slice0/Obligations.lean ====
section
/-! DEFINITION. The statements for the provers. OBLIGATIONS.json says of each what it rests on. -/

section

open Sys2Proof Sys2Proof.Machine

/-! ### The machine -/

/-- A step runs the command at the front of the queue on the state with the queue's rest; on an empty queue a microsecond
passes (the model's choice, log 2). -/
def Obligations.StepRunsTheFrontCommand : Prop :=
  (∀ (c : Instr) (rest : List Instr) (s : State),
    step { s with pending := c :: rest } = exec c { s with pending := rest })
  ∧ ∀ s : State, s.pending = [] → step s = .next { s with clock := s.clock + 1 }

/-- Every command answers a next state and leaves the queue as it was. That no command stops is the model's own deduction
(log 33). -/
def Obligations.EveryCommandAnswersAndKeepsTheQueue : Prop :=
  ∀ (c : Instr) (s : State), ∃ t, exec c s = .next t ∧ t.pending = s.pending

/-- What the spec gives for power-on reset; the straps and pin levels are the model's choice (log 1). -/
def Obligations.ResetHoldsThePowerOnValues : Prop :=
  let s := State.reset
  s.straps = { twoDevices := true, bootHigh := false } ∧ s.clock = 0
  ∧ (∀ i, i < 64 → activeAt s.active i = none ∧ stagedAt s.staged i = none)
  ∧ s.generation = 0 ∧ s.commit = .idle
  ∧ (∀ a, s.store.read a = 0xFFFF) ∧ s.ptr = { slot := 0, offset := 0 }
  ∧ s.fill = { job := none, progress := 0 } ∧ s.follow = { current := none, waiting := [] }
  ∧ (∀ d, (s.tracker.get d).record = .probe)
  ∧ (∀ i, i < 512 → lockAt s i = .opened)
  ∧ (∀ d, s.policy.get d = { missPolicy := .stall, autoSuspend := true, budget := 8, resumeIdle := 50, minRun := 200,
                             holdMax := 2000, stallTimeout := 5000, faultWord := 0xFFFF })
  ∧ (∀ d, s.controller.get d = { lastResume := none, budgetReported := false, suspendTimer := none, idleTimer := none,
                                 holdTimer := none, call := none })
  ∧ s.host.transaction = .none ∧ s.host.loadHold = true ∧ s.host.resetAsserted = false
  ∧ s.bus = none ∧ s.hostPath = [] ∧ (∀ d, s.service.get d = none)
  ∧ s.notices.queue = [] ∧ s.notices.next = 0 ∧ s.notices.overflow = 0
  ∧ (∀ (k : Nat) (h : k < 18), s.notices.tally[k] = 0 ∧ s.notices.enabled[k] = true)
  ∧ s.loader.state = .waiting .powerOn 0
  ∧ s.link = { receiver := .hunt, frameBuffer := none, waiting := none, processing := none, slot := none,
               pendingResponse := none }

/-- Decoding the frame bytes of a well-formed request gives the request back: code, tag, arguments and check value. The
same bytes with any other check value are BAD_FRAME with the tag received. -/
def Obligations.RequestFrameDecodesToItsRequest : Prop :=
  (∀ (i : Instr) (bytes : List Byte), i.wellFormed = true → encodeRequest i = some bytes → decodeFrame bytes = some i)
  ∧ ∀ (code tag c1 c0 : Byte) (args : List Byte), args.length ≤ 1024 →
    [c1, c0] ≠ be16 (crcBytes (code :: tag :: be16 args.length ++ args)).toNat →
    decodeFrame (0xA6 :: code :: tag :: be16 args.length ++ args ++ [c1, c0]) = some (.badFrame tag .checkMismatch)

/-! ### The management link -/

/-- GET_IDENTITY and GET_STATUS are answered in every state of every block, the loader running or not, and change nothing
but the link. -/
def Obligations.IdentityAndStatusAreAnswered : Prop :=
  ∀ (s : State) (tag : Byte), LinkFree s →
    exec (.getIdentity tag []) s = .next (s.answered tag .ok
      [0x64, 0x20, 0x01, 0x08, 0x00, 0x40, if s.straps.twoDevices then 2 else 1])
    ∧ exec (.getStatus tag []) s = .next (s.answered tag .ok
      (be8 s.commit.code ++ be16 s.generation.toNat ++ be8 (if s.fill.job = none then 0 else 1) ++ be16 s.fill.progress
        ++ be8 s.loader.state.code ++ be8 s.notices.queue.length
        ++ be8 s.tracker.dev0.record.code ++ be8 s.tracker.dev1.record.code
        ++ be8 (match s.tracker.dev0.record.erase with | some e => e.count | none => 0xFF)
        ++ be8 (match s.tracker.dev1.record.erase with | some e => e.count | none => 0xFF)
        ++ be16 s.ptr.slot ++ be8 s.ptr.offset))

/-- STAGE_ENTRY in IDLE stages exactly the fields given, for each mode. An index, a mode, a first line, a line count, a slot
or a follow value out of range, a field that the mode holds and that is not given, one given that it does not hold, and a
field mask of the wrong form are refused with BAD_ARG. -/
def Obligations.StageEntryStagesTheFieldsGiven : Prop :=
  ∀ (s : State) (tag : Byte) (i line n : Nat), LinkFree s → LoaderIdle s → s.commit = .idle →
    i ≤ 63 → line ≤ 2097151 → 1 ≤ n → n ≤ 256 →
    (∀ (slot : Nat) (follow : Bool) (check : Option Word), slot ≤ 2047 →
      exec (.stageEntry tag (be8 i ++ be8 1 ++ be32 line ++ be16 n ++ be8 (if check = none then 3 else 7) ++ be16 slot
        ++ be8 (if follow then 1 else 0) ++ be16 (check.getD 0).toNat ++ be16 0)) s
      = .next (State.answered tag .ok [] { s with
        staged := s.staged.setIfInBounds i
          (some { firstLine := line, lineCount := n, mode := .replace slot follow check }) }))
    ∧ (∀ w : Word,
      exec (.stageEntry tag (be8 i ++ be8 2 ++ be32 line ++ be16 n ++ be8 8 ++ be16 0 ++ be8 0 ++ be16 0
        ++ be16 w.toNat)) s
      = .next (State.answered tag .ok [] { s with
        staged := s.staged.setIfInBounds i
          (some { firstLine := line, lineCount := n, mode := .blank w }) }))
    ∧ exec (.stageEntry tag (be8 i ++ be8 3 ++ be32 line ++ be16 n ++ be8 0 ++ be16 0 ++ be8 0 ++ be16 0 ++ be16 0)) s
      = .next (State.answered tag .ok [] { s with
        staged := s.staged.setIfInBounds i
          (some { firstLine := line, lineCount := n, mode := .trap }) })
    ∧ (∀ args : List Byte, args.length = 16 →
      63 < argField args 0 1 ∨ argField args 1 1 = 0 ∨ 3 < argField args 1 1 ∨ 2097151 < argField args 2 4
        ∨ argField args 6 2 = 0 ∨ 256 < argField args 6 2 →
      exec (.stageEntry tag args) s = .next (s.answered tag .badArg []))
    ∧ (∀ args : List Byte, args.length = 16 →
      let mode := argField args 1 1
      let mask := argField args 8 1
      let slot : Prop := mask % 2 = 1
      let follow : Prop := mask / 2 % 2 = 1
      let check : Prop := mask / 4 % 2 = 1
      let fillWord : Prop := mask / 8 % 2 = 1
      (mode = 1 ∧ (¬ slot ∨ ¬ follow)) ∨ (mode = 2 ∧ ¬ fillWord)
        ∨ (mode = 1 ∧ fillWord) ∨ (mode = 2 ∧ (slot ∨ follow ∨ check)) ∨ (mode = 3 ∧ mask ≠ 0)
        ∨ (mode = 1 ∧ 2047 < argField args 9 2) ∨ (mode = 1 ∧ 1 < argField args 11 1)
        ∨ 15 < mask ∨ (¬ slot ∧ argField args 9 2 ≠ 0) ∨ (¬ follow ∧ argField args 11 1 ≠ 0)
        ∨ (¬ check ∧ argField args 12 2 ≠ 0) ∨ (¬ fillWord ∧ argField args 14 2 ≠ 0) →
      exec (.stageEntry tag args) s = .next (s.answered tag .badArg []))

/-- While a commit is in flight STAGE_ENTRY, CLEAR_STAGED, COPY_ACTIVE and COMMIT are refused with BUSY, before their
arguments are examined, and nothing but the link changes. -/
def Obligations.StagedEditsAndCommitAreBusyInFlight : Prop :=
  ∀ (s : State) (tag : Byte) (args : List Byte), LinkFree s → LoaderIdle s → s.commit ≠ .idle →
    (args.length = 16 → (EntryArgs.ofBytes args).wellFormed = true →
      exec (.stageEntry tag args) s = .next (s.answered tag .busy []))
    ∧ (args.length = 1 → exec (.clearStaged tag args) s = .next (s.answered tag .busy []))
    ∧ exec (.copyActive tag []) s = .next (s.answered tag .busy [])
    ∧ (args.length = 1 ∨ args.length = 7 → exec (.commit tag args) s = .next (s.answered tag .busy []))

/-- CLEAR_STAGED in IDLE: the position, or with ALL every position, becomes absent; an index above 63 is refused; a
position already absent is left so; the ACTIVE bank and the store are not touched. -/
def Obligations.ClearStagedEmptiesPositions : Prop :=
  ∀ (s : State) (tag : Byte), LinkFree s → LoaderIdle s → s.commit = .idle →
    (∀ i : Byte, i.toNat ≤ 63 →
      exec (.clearStaged tag [i]) s
        = .next (State.answered tag .ok [] { s with staged := s.staged.setIfInBounds i.toNat none })
      ∧ (stagedAt s.staged i.toNat = none → exec (.clearStaged tag [i]) s = .next (s.answered tag .ok [])))
    ∧ exec (.clearStaged tag [0xFF]) s
        = .next (State.answered tag .ok [] { s with staged := Vector.replicate 64 none })
    ∧ (∀ i : Byte, 63 < i.toNat → i ≠ 0xFF → exec (.clearStaged tag [i]) s = .next (s.answered tag .badArg []))
    ∧ (∀ args : List Byte, args.length ≠ 1 → args.length ≤ 1024 →
        exec (.clearStaged tag args) s = .next (s.answered tag .badArg []))

/-- COPY_ACTIVE in IDLE copies every field but the hit counts, and changes neither the ACTIVE bank nor the generation. -/
def Obligations.CopyActiveCopiesTheActiveBank : Prop :=
  ∀ (s : State) (tag : Byte), LinkFree s → LoaderIdle s → s.commit = .idle →
    ∃ t, exec (.copyActive tag []) s = .next (State.answered tag .ok [] t)
      ∧ (∀ i, i < 64 → stagedAt t.staged i = (activeAt s.active i).map (·.entry))
      ∧ t = { s with staged := t.staged }

/-- A COMMIT is refused with BUSY while the fill engine runs, before its arguments are examined, and with BAD_ARG for a mode
that is none, a mark line or an expiry that is missing, out of range or not for its mode, or the mark line of an absent
device. An accepted one is validated at once: rejected with its notice, or verified from the lowest checked position, or,
with nothing to verify, switched at once (IMMEDIATE, no read in progress), made to wait for the read's completion, or made to
wait for its mark. The response is OK in each case. -/
def Obligations.CommitIsValidatedAtItsAcceptance : Prop :=
  (∀ (s : State) (tag : Byte) (args : List Byte) (j : FillJob), LinkFree s → LoaderIdle s → s.commit = .idle →
    s.fill.job = some j → args.length = 1 ∨ args.length = 7 →
    exec (.commit tag args) s = .next (s.answered tag .busy []))
  ∧ (∀ (s : State) (tag : Byte) (args : List Byte), LinkFree s → LoaderIdle s → s.commit = .idle → s.fill.job = none →
    (args.length = 1 ∧ argField args 0 1 ≠ 1) ∨ (args.length = 7 ∧ argField args 0 1 ≠ 2)
      ∨ (args.length = 7 ∧ (2097151 < argField args 1 4 ∨ argField args 5 2 = 0
          ∨ (s.straps.twoDevices = false ∧ 1048576 ≤ argField args 1 4))) →
    exec (.commit tag args) s = .next (s.answered tag .badArg []))
  ∧ ∀ (s : State) (tag : Byte) (args : List Byte) (mode : CommitMode),
    LinkFree s → LoaderIdle s → s.commit = .idle → s.fill.job = none →
    ((args = [1] ∧ mode = .immediate)
      ∨ ∃ mark expiry, args = be8 2 ++ be32 mark ++ be16 expiry ∧ mode = .atMark mark expiry ∧ mark ≤ 2097151
          ∧ 1 ≤ expiry ∧ expiry ≤ 65535 ∧ (s.straps.twoDevices = true ∨ mark < 1048576)) →
    let f : InFlight := { mode := mode, origin := .management }
    (∀ r, validate s.straps.twoDevices s.staged = some r →
      exec (.commit tag args) s = .next (State.answered tag .ok []
        { s with
          notices := s.notices.post (timeBase s)
            { kind := .commitRejected, device := none, address := r.address, entry := some r.position,
              detail := r.detail } }))
    ∧ (validate s.straps.twoDevices s.staged = none → ∀ p, nextChecked s.staged 0 = some p →
      exec (.commit tag args) s = .next (State.answered tag .ok []
        { s with commit := .verifying f { position := p, index := 0, check := 0xFFFF } }))
    ∧ (validate s.straps.twoDevices s.staged = none → nextChecked s.staged 0 = none →
      (mode = .immediate → readInProgress s = false →
        exec (.commit tag args) s = .next (State.answered tag .ok []
          { s with
            active := freshBank s.staged
            generation := s.generation + 1
            notices := s.notices.post (timeBase s)
              { kind := .commitTaken, device := none, address := none, entry := none, detail := s.generation + 1 } }))
      ∧ (mode = .immediate → readInProgress s = true →
        exec (.commit tag args) s = .next (State.answered tag .ok [] { s with commit := .pendingBoundary f }))
      ∧ (∀ mark expiry, mode = .atMark mark expiry →
        exec (.commit tag args) s = .next (State.answered tag .ok [] { s with commit := .pendingMark f s.clock })))

/-- CANCEL_COMMIT: a commit in flight ends with COMMIT_CANCELLED (REQUEST), the banks and the generation unchanged; in IDLE
it is REFUSED_STATE and posts nothing. -/
def Obligations.CancelCommitEndsTheCommit : Prop :=
  ∀ (s : State) (tag : Byte), LinkFree s → LoaderIdle s →
    (s.commit ≠ .idle → exec (.cancelCommit tag []) s = .next (State.answered tag .ok []
      { s with
        commit := .idle
        notices := s.notices.post (timeBase s)
          { kind := .commitCancelled, device := none, address := none, entry := none, detail := 1 } }))
    ∧ (s.commit = .idle → exec (.cancelCommit tag []) s = .next (s.answered tag .refusedState []))

/-- READ_ENTRY: an absent position is the present byte 0 alone; a present one is its entry record, each mode's fields in
their places and 0 in the others, and from ACTIVE the hit count and the generation with it; a bank above 1 or an index above
63 is BAD_ARG. Nothing but the link changes. -/
def Obligations.ReadEntryReportsThePosition : Prop :=
  ∀ (s : State) (tag b i : Byte), LinkFree s → LoaderIdle s →
    let entry (e : Entry) : List Byte := match e.mode with
      | .replace slot follow check => [1, 1] ++ be32 e.firstLine ++ be16 e.lineCount ++ [if check = none then 3 else 7]
          ++ be16 slot ++ [if follow then 1 else 0] ++ be16 (check.getD 0).toNat ++ [0, 0]
      | .blank w => [1, 2] ++ be32 e.firstLine ++ be16 e.lineCount ++ [8, 0, 0, 0, 0, 0] ++ be16 w.toNat
      | .trap => [1, 3] ++ be32 e.firstLine ++ be16 e.lineCount ++ [0, 0, 0, 0, 0, 0, 0, 0]
    (1 < b.toNat ∨ 63 < i.toNat → exec (.readEntry tag [b, i]) s = .next (s.answered tag .badArg []))
    ∧ (i.toNat ≤ 63 →
      (activeAt s.active i.toNat = none → exec (.readEntry tag [0, i]) s = .next (s.answered tag .ok [0]))
      ∧ (∀ a, activeAt s.active i.toNat = some a → exec (.readEntry tag [0, i]) s = .next (s.answered tag .ok
          (entry a.entry ++ be32 a.hitCount ++ be16 s.generation.toNat)))
      ∧ (stagedAt s.staged i.toNat = none → exec (.readEntry tag [1, i]) s = .next (s.answered tag .ok [0]))
      ∧ (∀ e, stagedAt s.staged i.toNat = some e →
          exec (.readEntry tag [1, i]) s = .next (s.answered tag .ok (entry e))))

/-- SET_STORE_POINTER sets the pointer in range and is refused out of range, whatever the commit unit and the fill engine
are doing. -/
def Obligations.SetStorePointerMovesThePointer : Prop :=
  ∀ (s : State) (tag s1 s0 o : Byte), LinkFree s → LoaderIdle s →
    let slot := s1.toNat * 256 + s0.toNat
    (slot ≤ 2047 → o.toNat ≤ 15 → exec (.setStorePointer tag [s1, s0, o]) s
      = .next (State.answered tag .ok [] { s with ptr := { slot := slot, offset := o.toNat } }))
    ∧ (2047 < slot ∨ 15 < o.toNat → exec (.setStorePointer tag [s1, s0, o]) s = .next (s.answered tag .badArg []))

/-- WRITE_STORE and READ_STORE with a count of 1 to 256 go into processing with their words still to move; at the end of
store, with a count of 0 or above 256, or with as many words as the count does not say, they are BAD_ARG with a count of 0 and
the pointer. -/
def Obligations.StoreRequestsGoIntoProcessing : Prop :=
  ∀ (s : State) (tag : Byte) (words : List Word) (n : Nat), LinkFree s → LoaderIdle s → n < 65536 → words.length ≤ 511 →
    let wargs (count : Nat) := be16 count ++ words.flatMap fun w => be16 w.toNat
    let nothing := be16 0 ++ be16 s.ptr.slot ++ be8 s.ptr.offset
    (s.ptr.slot ≠ 2048 →
      (1 ≤ words.length → words.length ≤ 256 → exec (.writeStore tag (wargs words.length)) s
        = .next (s.processing (goodFrame codeWriteStore tag (wargs words.length)) (.write words 0)))
      ∧ (1 ≤ n → n ≤ 256 → exec (.readStore tag (be16 n)) s
        = .next (s.processing (goodFrame codeReadStore tag (be16 n)) (.read n []))))
    ∧ (s.ptr.slot = 2048 ∨ n = 0 ∨ 256 < n →
      exec (.readStore tag (be16 n)) s = .next (s.answered tag .badArg nothing))
    ∧ (s.ptr.slot = 2048 ∨ n = 0 ∨ 256 < n ∨ n ≠ words.length →
      exec (.writeStore tag (wargs n)) s = .next (s.answered tag .badArg nothing))

/-- FILL accepted makes the engine RUNNING with the fields given, with a target when one is named; RUNNING it is BUSY, before
its arguments are examined; slots or lines out of range, lines of both devices or of an absent one, a target out of range,
and one that is absent or not REPLACE are BAD_ARG; a live slot refuses it. ABORT_FILL stops a fill at once between two lines,
records the cause inside a line, changes nothing where a cause is set (the model's choice where that is CLEARED: log 52), and
is REFUSED_STATE in IDLE. -/
def Obligations.FillStartsAndAborts : Prop :=
  ∀ (s : State) (tag : Byte) (slot line n : Nat), LinkFree s → LoaderIdle s →
    (1 ≤ n → n ≤ 256 → slot + n ≤ 2048 → line + n ≤ 2097152 → (line + n ≤ 1048576 ∨ 1048576 ≤ line) →
      (s.straps.twoDevices = true ∨ line < 1048576) →
      let args := be16 slot ++ be32 line ++ be16 n
      let running (target : Option Nat) : State := State.answered tag .ok []
        { s with fill := { job := some { firstSlot := slot, firstLine := line, lineCount := n, target := target,
                                         check := 0xFFFF, stage := .waiting, abort := none }
                           progress := 0 } }
      (∀ j, s.fill.job = some j → exec (.fill tag args) s = .next (s.answered tag .busy []))
      ∧ (s.fill.job = none → (∃ k, k < n ∧ live s (slot + k) = true) →
          exec (.fill tag args) s = .next (s.answered tag .refusedLive []))
      ∧ (s.fill.job = none → (∀ k, k < n → live s (slot + k) = false) →
          (∃ k, k < n ∧ stagedProtected s (slot + k) = true) →
          exec (.fill tag args) s = .next (s.answered tag .refusedState []))
      ∧ (s.fill.job = none → (∀ k, k < n → live s (slot + k) = false ∧ stagedProtected s (slot + k) = false) →
          exec (.fill tag args) s = .next (running none)
          ∧ ∀ target e first follow check, target ≤ 63 → stagedAt s.staged target = some e →
              e.mode = .replace first follow check →
              exec (.fill tag (args ++ be8 target)) s = .next (running (some target)))
      ∧ (∀ target, target ≤ 63 → s.fill.job = none →
          (∀ e first follow check, stagedAt s.staged target = some e → e.mode ≠ .replace first follow check) →
          exec (.fill tag (args ++ be8 target)) s = .next (s.answered tag .badArg [])))
    ∧ (∀ args : List Byte, args.length = 8 ∨ args.length = 9 →
      (∀ j, s.fill.job = some j → exec (.fill tag args) s = .next (s.answered tag .busy []))
      ∧ (s.fill.job = none →
        let slot := argField args 0 2
        let line := argField args 2 4
        let n := argField args 6 2
        2047 < slot ∨ 2097151 < line ∨ n = 0 ∨ 256 < n ∨ (args.length = 9 ∧ 63 < argField args 8 1)
          ∨ 2048 < slot + n ∨ 2097152 < line + n ∨ (line < 1048576 ∧ 1048576 < line + n)
          ∨ (s.straps.twoDevices = false ∧ 1048576 ≤ line) →
        exec (.fill tag args) s = .next (s.answered tag .badArg [])))
    ∧ (s.fill.job = none → exec (.abortFill tag []) s = .next (s.answered tag .refusedState []))
    ∧ (∀ j, s.fill.job = some j → j.abort = none →
      (j.stage = .waiting → exec (.abortFill tag []) s = .next (State.answered tag .ok []
        { s with
          fill := { s.fill with job := none }
          notices := s.notices.post (timeBase s)
            { kind := .fillFailed, device := some (devOfLine j.firstLine), address := some (j.firstLine + s.fill.progress),
              entry := j.target, detail := 1 } }))
      ∧ (j.stage ≠ .waiting → exec (.abortFill tag []) s = .next (State.answered tag .ok []
        { s with fill := { s.fill with job := some { j with abort := some .aborted } } })))
    ∧ (∀ j cause, s.fill.job = some j → j.abort = some cause →
      exec (.abortFill tag []) s = .next (s.answered tag .ok []))

/-- READ_TRACKER answers the device's record, 21 bytes, and changes nothing; a device above 1 is BAD_ARG. A BUSY_ERASE
record, after its forwarding, shows the sector, the target address and the three erase fields, and no other. -/
def Obligations.ReadTrackerReportsTheRecord : Prop :=
  ∀ (s : State) (tag : Byte), LinkFree s → LoaderIdle s →
    exec (.readTracker tag [0]) s = .next (s.answered tag .ok (recordBytes s.tracker.dev0.record))
    ∧ exec (.readTracker tag [1]) s = .next (s.answered tag .ok (recordBytes s.tracker.dev1.record))
    ∧ (∀ d : Byte, 1 < d.toNat → exec (.readTracker tag [d]) s = .next (s.answered tag .badArg []))
    ∧ (∀ sector target e, s.tracker.dev0.record = .busyErase sector target (some e) →
      exec (.readTracker tag [0]) s = .next (s.answered tag .ok
        ([8, 0x03, 0x89] ++ be16 sector ++ [0, 0, 0, 0, 0] ++ be32 target ++ [0, 0, 0, 0] ++ be8 e.count
          ++ be8 e.snapshot ++ [if e.disabled then 1 else 0])))

/-- SET_LOCK gives every sector of its range that is not FROZEN the state asked for, and answers with the number of FROZEN
sectors it skipped; READ_LOCKS answers the states in ascending order; a range past sector 511 is refused by both. -/
def Obligations.SetLockSkipsFrozenSectors : Prop :=
  ∀ (s : State) (tag : Byte) (first count : Nat) (l : Lock), LinkFree s → LoaderIdle s →
    first ≤ 511 → 1 ≤ count → count ≤ 512 →
    (first + count ≤ 512 →
      ∃ t skipped, exec (.setLock tag (be16 first ++ be16 count ++ be8 l.code)) s
          = .next (State.answered tag (if skipped = 0 then .ok else .refusedState) (be16 skipped) t)
        ∧ skipped = ((List.range count).filter fun k => lockAt s (first + k) = .frozen).length
        ∧ (∀ i, i < 512 → lockAt t i = if first ≤ i ∧ i < first + count ∧ lockAt s i ≠ .frozen then l else lockAt s i)
        ∧ t = { s with locks := t.locks })
    ∧ (first + count ≤ 512 →
      exec (.readLocks tag (be16 first ++ be16 count)) s
        = .next (s.answered tag .ok ((List.range count).map fun k => BitVec.ofNat 8 (lockAt s (first + k)).code)))
    ∧ (512 < first + count →
      exec (.setLock tag (be16 first ++ be16 count ++ be8 l.code)) s = .next (s.answered tag .badArg [0, 0])
      ∧ exec (.readLocks tag (be16 first ++ be16 count)) s = .next (s.answered tag .badArg []))

/-- SET_POLICY gives the device all eight fields at one moment; a field outside its range leaves both policies as they
were. -/
def Obligations.SetPolicySetsAllEightFields : Prop :=
  ∀ (s : State) (tag : Byte) (p : Policy), LinkFree s → LoaderIdle s → p.budget < 256 → p.resumeIdle < 65536 →
    p.minRun < 65536 → p.holdMax < 65536 → p.stallTimeout < 65536 →
    let args (d : Byte) : List Byte :=
      [d, (match p.missPolicy with | .stall => 0 | .pass => 1 : Byte), (if p.autoSuspend then 1 else 0 : Byte)]
      ++ be8 p.budget ++ be16 p.resumeIdle ++ be16 p.minRun ++ be16 p.holdMax ++ be16 p.stallTimeout
      ++ be16 p.faultWord.toNat
    let inRange := p.budget ≤ 15 ∧ 10 ≤ p.resumeIdle ∧ p.resumeIdle ≤ 1000 ∧ p.minRun ≤ 5000 ∧ 100 ≤ p.holdMax
      ∧ p.holdMax ≤ 10000 ∧ 100 ≤ p.stallTimeout ∧ p.stallTimeout ≤ 50000
    (inRange →
      exec (.setPolicy tag (args 0)) s = .next (State.answered tag .ok [] { s with policy := { s.policy with dev0 := p } })
      ∧ exec (.setPolicy tag (args 1)) s
          = .next (State.answered tag .ok [] { s with policy := { s.policy with dev1 := p } }))
    ∧ (∀ d, ¬ inRange ∨ 1 < d.toNat → exec (.setPolicy tag (args d)) s = .next (s.answered tag .badArg []))

/-- READ_POLICY answers the eight fields of the device's policy, all of one moment, and changes nothing; a device above 1
is BAD_ARG. The budget snapshot of an erase is not among them: READ_TRACKER carries it, in its twentieth byte. -/
def Obligations.ReadPolicyReportsThePolicy : Prop :=
  ∀ (s : State) (tag : Byte), LinkFree s → LoaderIdle s →
    let bytes (p : Policy) : List Byte :=
      [(match p.missPolicy with | .stall => 0 | .pass => 1 : Byte), (if p.autoSuspend then 1 else 0 : Byte)]
      ++ be8 p.budget ++ be16 p.resumeIdle ++ be16 p.minRun ++ be16 p.holdMax ++ be16 p.stallTimeout
      ++ be16 p.faultWord.toNat
    exec (.readPolicy tag [0]) s = .next (s.answered tag .ok (bytes s.policy.dev0))
    ∧ exec (.readPolicy tag [1]) s = .next (s.answered tag .ok (bytes s.policy.dev1))
    ∧ (∀ d : Byte, 1 < d.toNat → exec (.readPolicy tag [d]) s = .next (s.answered tag .badArg []))
    ∧ (∀ e, s.tracker.dev0.record.erase = some e →
        ∃ payload, exec (.readTracker tag [0]) s = .next (s.answered tag .ok payload)
          ∧ payload[19]? = some (BitVec.ofNat 8 e.snapshot))
    ∧ (∀ e, s.tracker.dev1.record.erase = some e →
        ∃ payload, exec (.readTracker tag [1]) s = .next (s.answered tag .ok payload)
          ∧ payload[19]? = some (BitVec.ofNat 8 e.snapshot))

/-- POP_NOTICES removes the oldest min(n, length) records and returns them oldest first, each in its 16 bytes with 0 in an
absent field, with the number left; the next sequence, the tallies, the overflow count and the enable set are unchanged; a
count of 0 or above 32 is BAD_ARG. It is answered while the loader runs. -/
def Obligations.PopNoticesReturnsTheOldest : Prop :=
  ∀ (s : State) (tag n : Byte), LinkFree s →
    let kinds : List NoticeKind :=
      [.guardRefused, .sequenceRefused, .shadowedWrite, .stallTimeout, .opDone, .opFailed, .suspendFailed, .budgetSpent,
       .trapHit, .fillDone, .fillFailed, .commitTaken, .commitRejected, .commitExpired, .commitCancelled, .loadDone,
       .loadError, .hostReset]
    let record (x : Notice) : List Byte :=
      be16 x.sequence.toNat ++ be8 (kinds.idxOf x.kind)
        ++ be8 ((if x.device = none then 0 else 1) + (if x.address = none then 0 else 2) + (if x.entry = none then 0 else 4))
        ++ be8 (if x.device = some .dev1 then 1 else 0) ++ be8 (x.entry.getD 0) ++ be32 (x.address.getD 0)
        ++ be32 x.time.toNat ++ be16 x.detail.toNat
    (1 ≤ n.toNat → n.toNat ≤ 32 →
      exec (.popNotices tag [n]) s = .next (State.answered tag .ok
        (be8 (s.notices.queue.length - n.toNat) ++ be8 (min n.toNat s.notices.queue.length)
          ++ (s.notices.queue.take n.toNat).flatMap record)
        { s with notices := { s.notices with queue := s.notices.queue.drop n.toNat } }))
    ∧ (n = 0 ∨ 32 < n.toNat → exec (.popNotices tag [n]) s = .next (s.answered tag .badArg []))

/-- READ_TALLIES answers the 18 tallies in the order of the kinds, the overflow count and the enable set, and changes
nothing; the queue's length is reported by GET_STATUS. -/
def Obligations.ReadTalliesReportsTheTallies : Prop :=
  ∀ (s : State) (tag : Byte), LinkFree s → LoaderIdle s →
    exec (.readTallies tag []) s = .next (s.answered tag .ok
      ((s.notices.tally.toList.map fun n => BitVec.ofNat 8 n) ++ [BitVec.ofNat 8 s.notices.overflow]
        ++ s.notices.enabled.toList.map fun b => if b then (1 : Byte) else 0))
    ∧ (∃ payload, exec (.getStatus tag []) s = .next (s.answered tag .ok payload)
        ∧ payload[7]? = some (BitVec.ofNat 8 s.notices.queue.length))
    ∧ (∀ args : List Byte, args ≠ [] → args.length ≤ 1024 →
        exec (.readTallies tag args) s = .next (s.answered tag .badArg []))

/-- CLEAR_TALLIES sets every tally and the overflow count to 0 and touches neither the queue, the next sequence, the enable
set nor INC_N. -/
def Obligations.ClearTalliesClearsOnlyTheCounts : Prop :=
  ∀ (s : State) (tag : Byte), LinkFree s → LoaderIdle s →
    (∃ t, exec (.clearTallies tag []) s = .next (State.answered tag .ok [] t)
      ∧ t = { s with notices := { queue := s.notices.queue, next := s.notices.next, enabled := s.notices.enabled,
                                  tally := Vector.replicate 18 0, overflow := 0 } }
      ∧ incN t = incN s)
    ∧ (∀ args : List Byte, args ≠ [] → args.length ≤ 1024 →
        exec (.clearTallies tag args) s = .next (s.answered tag .badArg []))

/-- SET_NOTICE_ENABLE gives every kind its flag at one moment, and removes nothing from the queue; a byte other than 0 and 1
leaves the set as it was. -/
def Obligations.SetNoticeEnableSetsEveryFlag : Prop :=
  ∀ (s : State) (tag : Byte), LinkFree s → LoaderIdle s →
    (∀ v : Vector Bool 18, exec (.setNoticeEnable tag (v.toList.map fun b => if b then 1 else 0)) s
      = .next (State.answered tag .ok [] { s with notices := { s.notices with enabled := v } }))
    ∧ (∀ args : List Byte, args.length = 18 → (∃ b ∈ args, b ≠ 0 ∧ b ≠ 1) →
      exec (.setNoticeEnable tag args) s = .next (s.answered tag .badArg []))

/-- SOFT_RESET applies the flags given in the order CLEAR_OVERLAY, CLEAR_NOTICES, DEFAULT_POLICIES, RELOAD, each as its own
row does; a flag set with any other position set is BAD_ARG and applies none. -/
def Obligations.SoftResetAppliesItsFlagsInOrder : Prop :=
  ∀ (s : State) (tag flags : Byte), LinkFree s → LoaderIdle s →
    (flags.toNat ≤ 15 → ∃ s1 s2 s3 s4,
      (if flags.getLsbD 0 then exec .clearOverlay s = .next s1 else s1 = s)
      ∧ (if flags.getLsbD 1 then exec .clearNotices s1 = .next s2 else s2 = s1)
      ∧ (if flags.getLsbD 2 then exec .defaultPolicies s2 = .next s3 else s3 = s2)
      ∧ (if flags.getLsbD 3 then exec .reload s3 = .next s4 else s4 = s3)
      ∧ exec (.softReset tag [flags]) s = .next (s4.answered tag .ok []))
    ∧ (15 < flags.toNat → exec (.softReset tag [flags]) s = .next (s.answered tag .badArg []))

/-- The four flags' rows while the loader is idle and no request is in processing. CLEAR_OVERLAY cancels a commit, stops a
fill (at once between two lines, else at the line's end, with CLEARED), empties both banks as a switch and sets the pointer
to 0; CLEAR_NOTICES empties the queue and the counts and keeps the next sequence; DEFAULT_POLICIES sets both policies; RELOAD
cancels and stops likewise, sets load hold, empties the STAGED bank and starts the loader, which at once acts on a device 0
record in the boot sector's STATUS or REFUSED or in a host's suspension. While a request is in processing or the loader runs
each row changes nothing (the rows of their own are the model's choice, log 10). -/
def Obligations.SoftResetRowsHaveTheirEffect : Prop :=
  ∀ s : State,
    (LoaderIdle s → s.link.processing = none →
      let n0 := if s.commit = .idle then s.notices else s.notices.post (timeBase s)
        { kind := .commitCancelled, device := none, address := none, entry := none, detail := 3 }
      let n1 := match s.fill.job with
        | none => n0
        | some j => if j.stage = .waiting then n0.post (timeBase s)
            { kind := .fillFailed, device := some (devOfLine j.firstLine), address := some (j.firstLine + s.fill.progress),
              entry := j.target, detail := 2 } else n0
      let fill : Fill := match s.fill.job with
        | none => s.fill
        | some j => { s.fill with job := if j.stage = .waiting then none else some { j with abort := some .cleared } }
      let boot := s.loader.bootSector
      let reloading : State := { s with
        commit := .idle
        fill := fill
        notices := n1
        staged := Vector.replicate 64 none
        host := { s.host with loadHold := true }
        loader := { s.loader with state := .waiting .reload s.clock } }
      let raised (work : ServiceWork) (sector : Nat) : State := { reloading with
        service := { s.service with dev0 := some { work := work, addr := sector * 65536, behind := hostWaiting s .dev0 } } }
      exec .clearOverlay s = .next { s with
        commit := .idle
        fill := fill
        staged := Vector.replicate 64 none
        active := Vector.replicate 64 none
        generation := s.generation + 1
        notices := n1.post (timeBase s)
          { kind := .commitTaken, device := none, address := none, entry := none, detail := s.generation + 1 }
        ptr := { slot := 0, offset := 0 } }
      ∧ exec .clearNotices s = .next { s with
          notices := { s.notices with queue := [], tally := Vector.replicate 18 0, overflow := 0 } }
      ∧ exec .defaultPolicies s = .next { s with policy := { dev0 := Policy.default, dev1 := Policy.default } }
      ∧ (match s.tracker.dev0.record with
        | .status sector =>
          (sector ≠ boot → exec .reload s = .next reloading)
          ∧ (sector = boot → s.service.dev0 = none → s.bus = none → exec .reload s = .next (raised (.arrayWrite false) boot))
          ∧ (∀ q, s.service.dev0 = some q → exec .reload s = .next reloading)
        | .refused sector =>
          exec .reload s = .next (if sector = boot then reloading.withRecord .dev0 .array else reloading)
        | .suspended sector _ .host _ _ =>
          (s.service.dev0 = none → s.bus = none → exec .reload s = .next (raised (.resume .loader) sector))
          ∧ (∀ q, s.service.dev0 = some q → exec .reload s = .next reloading)
        | _ => exec .reload s = .next reloading))
    ∧ (s.loader.state ≠ .idle ∨ (∃ p, s.link.processing = some p) →
      exec .clearOverlay s = .next s ∧ exec .clearNotices s = .next s ∧ exec .defaultPolicies s = .next s
        ∧ exec .reload s = .next s)

/-- Frames that are not answered by a command: an unknown code is BAD_COMMAND, a wrong check value BAD_FRAME, whatever the
loader's state; a length above 1,024 is BAD_FRAME and the receiver discards the rest. -/
def Obligations.BadFramesAndCommandsAreAnswered : Prop :=
  ∀ (s : State) (tag code : Byte) (args : List Byte), LinkFree s →
    ((Instr.badCommand code tag args).wellFormed = true →
      exec (.badCommand code tag args) s = .next (s.answered tag .badCommand []))
    ∧ exec (.badFrame tag .checkMismatch) s = .next (s.answered tag .badFrame [])
    ∧ exec (.badFrame tag .argumentLength) s = .next { s with
        link := { Link.answered tag .badFrame [] with receiver := .discarding } }

/-- The link's own rows: a start byte in HUNT begins a frame, discards the response and supersedes the request in processing;
while a frame waits it is discarded, the slot left but for the byte its byte time sends; in DISCARDING its byte time sends
the next byte of the response; LSEL_N deasserted abandons the frame and rewinds the response; a response's bytes go out in
their order, and once it is taken the slot is empty; a frame complete while a request is in processing waits, of whatever
request and one whose check value does not match too, and the BAD_FRAME of one too long is pending. When a WRITE_STORE has
written its last word its response is placed, or discarded when it is superseded; a pending response is then placed, and a
waiting frame is processed as one that reaches a free link. That bytes come and go with these rows is the model's choice
(logs 8, 9). -/
def Obligations.LinkRowsMoveTheLink : Prop :=
  ∀ (s : State) (tag : Byte),
    (s.link.receiver = .hunt → s.link.waiting = none →
      exec .startByteReceived s = .next { s with link := { s.link with
        receiver := .receiving, frameBuffer := some [], slot := none, pendingResponse := none
        processing := s.link.processing.map fun p => { p with superseded := true } } })
    ∧ (∀ f, s.link.receiver = .hunt → s.link.waiting = some f →
      exec .startByteReceived s = .next { s with link := { s.link with
        receiver := .discarding, slot := clockOut s.link.slot
        processing := s.link.processing.map fun p => { p with superseded := true } } })
    ∧ (∀ x, s.link.receiver = .discarding → s.link.slot = some x →
      exec .startByteReceived s = .next { s with link := { s.link with
        slot := if x.position + 1 < x.response.bytes.length then some { x with position := x.position + 1 } else none } })
    ∧ (s.link.receiver ≠ .init →
      exec .lselNDeasserted s = .next { s with link := { s.link with
        receiver := .hunt, frameBuffer := none, slot := s.link.slot.map fun r => { r with position := 0 } } })
    ∧ (∀ x k, s.link.slot = some x → x.position + k < x.response.bytes.length →
      ldo (sendBytes k s) = x.response.bytes.getD (x.position + k) 0)
    ∧ exec .responseTaken s = .next { s with link := { s.link with slot := none } }
    ∧ (∀ p, s.link.receiver = .hunt → s.link.waiting = none → s.link.processing = some p →
      let held (receiver : Receiver) (f : Option Frame) (q : Option Response) : State := { s with link :=
        { receiver := receiver, frameBuffer := none, waiting := f, processing := some { p with superseded := true },
          slot := none, pendingResponse := q } }
      (∀ i code args, i.wellFormed = true → i.request = some (code, tag, args) →
        exec i s = .next (held .hunt (some (goodFrame code tag args)) none))
      ∧ exec (.badFrame tag .checkMismatch) s
        = .next (held .hunt (some { code := 0, tag := tag, args := [], checkOk := false }) none)
      ∧ exec (.badFrame tag .argumentLength) s
        = .next (held .discarding none (some { tag := tag, status := .badFrame, payload := [] })))
    ∧ (∀ p w count, LoaderIdle s → portChoice s = some (.management p) → p.work = .write [w] count →
      live s s.ptr.slot = false → stagedProtected s s.ptr.slot = false →
      let ended (l : Link) : State := { s with
        store := s.store.write (s.ptr.slot * 16 + s.ptr.offset) w
        ptr := s.ptr.next
        link := { l with processing := none } }
      let response : Response := {
        tag := p.frame.tag, status := .ok
        payload := be16 (count + 1) ++ be16 s.ptr.next.slot ++ be8 s.ptr.next.offset }
      (s.link.waiting = none → s.link.pendingResponse = none →
        exec .storePortAccess s = .next (if p.superseded then ended s.link
          else ended { s.link with slot := some { response := response, position := 0 } }))
      ∧ (∀ q, s.link.waiting = none → s.link.pendingResponse = some q →
        exec .storePortAccess s
          = .next (ended { s.link with slot := some { response := q, position := 0 }, pendingResponse := none }))
      ∧ (∀ i code tag args, i.wellFormed = true → i.request = some (code, tag, args) →
        s.link.waiting = some (goodFrame code tag args) → p.superseded = true → s.link.receiver = .hunt →
        s.link.frameBuffer = none → s.link.slot = none → s.link.pendingResponse = none →
        exec .storePortAccess s = exec i (ended { s.link with waiting := none })))

/-- While the loader runs, every request but GET_IDENTITY, GET_STATUS and POP_NOTICES is answered NOT_READY with an empty
payload and has no effect. -/
def Obligations.OtherRequestsAreNotReadyWhileTheLoaderRuns : Prop :=
  ∀ (i : Instr) (s : State) (code tag : Byte) (args : List Byte), i.wellFormed = true →
    i.request = some (code, tag, args) → (∀ c t a, i ≠ .badCommand c t a) →
    (∀ t a, i ≠ .getIdentity t a) → (∀ t a, i ≠ .getStatus t a) → (∀ t a, i ≠ .popNotices t a) →
    LinkFree s → s.loader.state ≠ .idle → exec i s = .next (s.answered tag .notReady [])

/-- Check 4: an argument length the command's layout does not allow is BAD_ARG with an empty payload and no effect. That
those of SET_LOCK, WRITE_STORE and READ_STORE are empty too is the model's choice (log 43). -/
def Obligations.WrongArgumentLengthIsBadArg : Prop :=
  ∀ (i : Instr) (s : State) (code tag : Byte) (args : List Byte), i.wellFormed = true →
    i.request = some (code, tag, args) → LinkFree s → LoaderIdle s →
    (match i with
      | .getIdentity _ a => a.length ≠ 0
      | .getStatus _ a => a.length ≠ 0
      | .softReset _ a => a.length ≠ 1
      | .readEntry _ a => a.length ≠ 2
      | .stageEntry _ a => a.length ≠ 16
      | .clearStaged _ a => a.length ≠ 1
      | .copyActive _ a => a.length ≠ 0
      | .commit _ a => a.length ≠ 1 ∧ a.length ≠ 7
      | .cancelCommit _ a => a.length ≠ 0
      | .setStorePointer _ a => a.length ≠ 3
      | .writeStore _ a => a.length < 2 ∨ a.length % 2 = 1
      | .readStore _ a => a.length ≠ 2
      | .fill _ a => a.length ≠ 8 ∧ a.length ≠ 9
      | .abortFill _ a => a.length ≠ 0
      | .readTracker _ a => a.length ≠ 1
      | .setLock _ a => a.length ≠ 5
      | .readLocks _ a => a.length ≠ 4
      | .setPolicy _ a => a.length ≠ 14
      | .readPolicy _ a => a.length ≠ 1
      | .popNotices _ a => a.length ≠ 1
      | .readTallies _ a => a.length ≠ 0
      | .clearTallies _ a => a.length ≠ 0
      | .setNoticeEnable _ a => a.length ≠ 18
      | _ => False) →
    exec i s = .next (s.answered tag .badArg [])

/-! ### The host face, the read path and the tracker -/

/-- POWER_ON_RESET puts every block at its power-on value whatever the state was; a device whose ready line is high leaves
PROBE at once, device 0 with the start of the load. -/
def Obligations.PowerOnResetStartsThePart : Prop :=
  ∀ (s : State) (two bootsel hrst ready0 ready1 : Bool),
    exec (.powerOnReset two bootsel hrst false false) s
      = .next (State.powerOn two bootsel hrst false false s.pending)
    ∧ ∃ t, exec (.powerOnReset two bootsel hrst ready0 ready1) s = .next t
      ∧ t.tracker.dev0.record = (if ready0 then .array else .probe)
      ∧ t.tracker.dev1.record = (if two then (if ready1 then .array else .probe) else .absent)
      ∧ t.loader = { state := if ready0 then .reading .powerOn 0 0 [] else .waiting .powerOn 0,
                     bootSector := if bootsel then 255 else 0 }
      ∧ t = { State.powerOn two bootsel hrst ready0 ready1 s.pending with tracker := t.tracker, loader := t.loader }

/-- HOST_RESET is one event, a load running or not: the transaction ends, a read in progress is dropped and its words will
be discarded, a SUSPEND raised for it is withdrawn; a commit of origin MANAGEMENT is cancelled and one of origin LOADER runs
on, switching when it waited for the dropped read; each record is cleaned up by its state, the timers of a suspension
stopped; HOST_RESET is posted; entries, store, pointer, fill, locks and policies stay. An assertion already taken is not taken
again. That HOST_RESET stands last is the model's choice (log 19; the spec lets either be first), and so are that a write of
the cleanup write's word on the bus stands for it (log 32), and that one in place of a waiting request of its word stands behind
the host path transactions of its device that wait at the assertion (log 53). -/
def Obligations.HostResetIsOneEvent : Prop :=
  ∀ s : State,
    (s.host.resetAsserted = true → exec .hostReset s = .next s)
    ∧ (s.host.resetAsserted = false →
      let left (d : Dev) : Option ServiceReq := match s.service.get d, s.host.transaction with
        | some q, .read r => if q.work = .suspend ∧ devOf r.addr = d then none else some q
        | q, _ => q
      let written (d : Dev) (work : ServiceWork) (sector : Nat) : Option ServiceReq :=
        some { work := work, addr := sectorBase sector, behind := hostWaiting s d }
      let stopped (k : Controller) : Controller := { k with idleTimer := none, holdTimer := none, call := none }
      ∃ t, exec .hostReset s = .next t
        ∧ t.host.resetAsserted = true ∧ t.host.transaction = .none ∧ t.host.dataOut = s.host.dataOut
        ∧ ((∀ r, s.host.transaction ≠ .read r) →
            t.hostPath = s.hostPath ∧ t.bus = s.bus ∧ t.host.dropped = s.host.dropped)
        ∧ (∀ r, s.host.transaction = .read r →
            t.hostPath = s.hostPath.map HostTxn.discarded ∧ t.bus = s.bus.map BusTxn.discarded
            ∧ (r.stage ≠ .store → t.host.dropped = s.host.dropped)
            ∧ ∀ p slot follow check k, r.stage = .store → r.cls = .hit p (.replace slot follow check) k →
                s.host.dropped = none →
                t.host.dropped = some ((slot + k) * 16 + (r.addr % 16 + s.host.dataOut.length)))
        ∧ (∀ d, match (s.tracker.get d).record with
          | .heldProgram _ => (t.tracker.get d).record = .array ∧ t.service.get d = left d
          | .heldErase _ => (t.tracker.get d).record = .array ∧ t.service.get d = left d
          | .refused _ => (t.tracker.get d).record = .array ∧ t.service.get d = left d
          | .suspending sector target o _ e =>
              (t.tracker.get d).record = .suspending sector target o true e ∧ t.service.get d = left d
          | .status sector => (t.tracker.get d).record = .status sector
              ∧ ((∀ c a, s.bus ≠ some (.service d (.arrayWrite c) a)) → t.service.get d = written d (.arrayWrite true) sector)
              ∧ (∀ c a, s.bus = some (.service d (.arrayWrite c) a) → t.service.get d = left d)
          | .suspended sector target o p e => (t.tracker.get d).record = .suspended sector target o p e
              ∧ ((∀ a, s.bus ≠ some (.service d (.resume .cleanup) a)) → t.service.get d = written d (.resume .cleanup) sector)
              ∧ (∀ a, s.bus = some (.service d (.resume .cleanup) a) → t.service.get d = left d)
              ∧ t.controller.get d = stopped (s.controller.get d)
          | r => (t.tracker.get d).record = r ∧ t.service.get d = left d)
        ∧ (∀ d, (∀ sector target o p e, (s.tracker.get d).record ≠ .suspended sector target o p e) →
            t.controller.get d = s.controller.get d)
        ∧ (∀ d, t.tracker.get d = { s.tracker.get d with
              record := (t.tracker.get d).record
              kept := (s.tracker.get d).kept.map fun k => { k with hostWaits := false } })
        ∧ (let ends (u : State) : Prop := t.commit = u.commit ∧ t.active = u.active ∧ t.generation = u.generation
              ∧ t.loader = u.loader ∧ t.host.loadHold = u.host.loadHold
              ∧ t.notices = u.notices.post (timeBase s)
                  { kind := .hostReset, device := none, address := none, entry := none, detail := 0 }
          (s.commit = .idle → ends s)
          ∧ (∀ f, s.commit.inFlight = some f → f.origin = .management → ends { s with
              commit := .idle
              notices := s.notices.post (timeBase s)
                { kind := .commitCancelled, device := none, address := none, entry := none, detail := 2 } })
          ∧ (∀ f, s.commit.inFlight = some f → f.origin = .loader →
              (s.commit ≠ .pendingBoundary f → ends s)
              ∧ (s.commit = .pendingBoundary f →
                ((∀ origin n, s.loader.state ≠ .committing origin n) → ends s.switched)
                ∧ ∀ origin n, s.loader.state = .committing origin n → ends (s.switched.loadDone n))))
        ∧ t.staged = s.staged ∧ t.store = s.store ∧ t.ptr = s.ptr ∧ t.fill = s.fill ∧ t.follow = s.follow
        ∧ t.locks = s.locks ∧ t.policy = s.policy ∧ t.readyLine = s.readyLine ∧ t.link = s.link ∧ t.clock = s.clock)

/-- HRST_N released changes the reset field alone. While it is asserted a read or a write is ignored; while load hold is on,
the loader running or not, a transaction is held with its address and its length or word, and is not classified. -/
def Obligations.HostFaceIgnoresAndHolds : Prop :=
  ∀ (s : State) (addr : BitVec 25) (len : BurstLength) (word : Word),
    exec .hrstNRelease s = .next { s with host := { s.host with resetAsserted := false } }
    ∧ (s.host.resetAsserted = true → exec (.hostRead addr len) s = .next s
      ∧ (LoaderQuiet s ∨ s.tracker.dev0.record = .array → exec (.hostWrite addr word) s = .next s))
    ∧ (s.host.resetAsserted = false → s.host.transaction = .none → s.host.loadHold = true →
      exec (.hostRead addr len) s
        = .next { s with host := { s.host with transaction := .heldRead addr.toNat (burstWords len) } }
      ∧ (LoaderQuiet s ∨ s.tracker.dev0.record = .array → exec (.hostWrite addr word) s
        = .next { s with host := { s.host with transaction := .heldWrite addr.toNat word } }))

/-- Bursts answered at once: a BLANK hit with its fill word and one more on its entry's hit count, a burst of the command
sector of a REFUSED record with the synthetic status word, a burst of an absent device with device 0's fault word. Each
word of the aligned block once, nothing else changed, but for the switch of a commit that waited for this completion. -/
def Obligations.BurstsAnsweredAtOnce : Prop :=
  ∀ (s : State) (addr : BitVec 25) (len : BurstLength), HostReady s →
    let base := burstBase addr len
    let d := devOf base
    let answered (w : Word) : State :=
      { s with host := { s.host with transaction := .none, dataOut := List.replicate (burstWords len) w } }
    (∀ p e w a, installed s d = true → (s.tracker.get d).record.commandSector ≠ some (sectorOf base) →
      lookup s.active (lineOf base) = some (p, e) → e.mode = .blank w → activeAt s.active p = some a →
      CompletesRead (lineOf base) ((answered w).counted p a) (exec (.hostRead addr len) s))
    ∧ (installed s d = true → (s.tracker.get d).record = .refused (sectorOf base) →
      CompletesRead (lineOf base) (answered 0x0089) (exec (.hostRead addr len) s))
    ∧ (s.straps.twoDevices = false → 16777216 ≤ base →
      CompletesRead (lineOf base) (answered s.policy.dev0.faultWord) (exec (.hostRead addr len) s))

/-- Bursts taken and answered later: a REPLACE hit waits for the store port; a miss of a device in ARRAY, HELD, STATUS or
REFUSED, and a bypass outside REFUSED, is raised on the host path; a TRAP hit is raised as a miss and posts TRAP_HIT. The
generation in force is noted. -/
def Obligations.BurstsTakenForThePortOrTheHostPath : Prop :=
  ∀ (s : State) (addr : BitVec 25) (len : BurstLength), HostReady s →
    let base := burstBase addr len
    let d := devOf base
    let n := burstWords len
    let taken (cls : Classification) (stage : ReadStage) : State :=
      { s with host := { s.host with
          transaction := .read { addr := base, count := n, line := lineOf base, generation := s.generation, cls := cls,
                                 stage := stage }
          dataOut := [] } }
    let outside := (s.tracker.get d).record.commandSector ≠ some (sectorOf base)
    installed s d = true →
    (∀ p e slot follow check, outside → lookup s.active (lineOf base) = some (p, e) → e.mode = .replace slot follow check →
      exec (.hostRead addr len) s = .next (taken (.hit p e.mode (lineOf base - e.firstLine)) .store))
    ∧ ((s.tracker.get d).record.commandSector = some (sectorOf base) →
      (∀ x, (s.tracker.get d).record ≠ .refused x) →
      exec (.hostRead addr len) s = .next { taken .bypass .forwarded with
        hostPath := s.hostPath ++ [.read base n true false] })
    ∧ ((match (s.tracker.get d).record with
        | .array => True
        | .heldProgram _ => True
        | .heldErase _ => True
        | .status _ => True
        | .refused _ => True
        | _ => False) → outside → (s.controller.get d).call = none →
      (lookup s.active (lineOf base) = none →
        exec (.hostRead addr len) s = .next { taken .miss .forwarded with
          hostPath := s.hostPath ++ [.read base n false false] })
      ∧ (∀ p e, lookup s.active (lineOf base) = some (p, e) → e.mode = .trap →
        exec (.hostRead addr len) s = .next { taken (.hit p e.mode (lineOf base - e.firstLine)) .forwarded with
          hostPath := s.hostPath ++ [.read base n false false]
          notices := s.notices.post (timeBase s)
            { kind := .trapHit, device := some d, address := some (lineOf base), entry := some p, detail := 0 } }))

/-- A burst that misses, or hits a TRAP entry, which posts TRAP_HIT first, of a device in BUSY_PROGRAM or in PROBE falls to
the miss policy. In BUSY_ERASE, with a suspension available and min_run elapsed, it is stalled and a SUSPEND is raised at the
first word of the command sector; before min_run it waits; with the budget spent it falls to the miss policy and BUDGET_SPENT
is posted, on the first such decision only; with auto_suspend off or disabled it falls to the miss policy. While the record's
command pair waits the burst is deferred. In SUSPENDING it is stalled. In SUSPENDED it is forwarded, a RESUME waiting or not:
a RESUME of the timers is withdrawn, resume_idle starts again and a call of hold_max stays. The model deduces that a RESUME
that waits does not hold the burst back (log 15) and that resume_idle starts again at the withdrawal (log 17), and chooses
that a call of resume_idle with no request raised yet is dropped as well (log 49). -/
def Obligations.MissDecisionOfABusyDevice : Prop :=
  ∀ (s s0 : State) (addr : BitVec 25) (len : BurstLength) (cls : Classification), HostReady s →
    let base := burstBase addr len
    let d := devOf base
    let r (stage : ReadStage) : ReadRecord :=
      { addr := base, count := burstWords len, line := lineOf base, generation := s.generation, cls := cls,
        stage := stage }
    let taken (stage : ReadStage) (t : State) : State :=
      { t with host := { s.host with transaction := .read (r stage), dataOut := [] } }
    let forwarded (t : State) : State :=
      { taken .forwarded t with hostPath := s.hostPath ++ [.read base (burstWords len) false false] }
    let falls (t : State) : Prop :=
      ((s.policy.get d).missPolicy = .stall → exec (.hostRead addr len) s = .next (taken (.stalled s.clock .policy) t))
      ∧ ((s.policy.get d).missPolicy = .pass → (s.controller.get d).call = none →
        exec (.hostRead addr len) s = .next (forwarded t))
    let missed : Prop := lookup s.active (lineOf base) = none ∧ cls = .miss ∧ s0 = s
    let trapped : Prop := ∃ p e, lookup s.active (lineOf base) = some (p, e) ∧ e.mode = .trap
      ∧ cls = .hit p .trap (lineOf base - e.firstLine)
      ∧ s0 = { s with
          notices := s.notices.post (timeBase s)
            { kind := .trapHit, device := some d, address := some (lineOf base), entry := some p, detail := 0 } }
    installed s d = true → missed ∨ trapped →
    (∀ sector target data, (s.tracker.get d).record = .busyProgram sector target data → sector ≠ sectorOf base →
      (pairWaits s d = false → falls s0)
      ∧ (pairWaits s d = true → exec (.hostRead addr len) s = .next (taken .deferred s0)))
    ∧ ((s.tracker.get d).record = .probe → falls s0)
    ∧ (∀ sector target e, (s.tracker.get d).record = .busyErase sector target e → sector ≠ sectorOf base →
      pairWaits s d = true → exec (.hostRead addr len) s = .next (taken .deferred s0))
    ∧ (∀ sector target e, (s.tracker.get d).record = .busyErase sector target (some e) → sector ≠ sectorOf base →
      pairWaits s d = false →
      ((s.policy.get d).autoSuspend = true → e.disabled = false → e.count < e.snapshot →
        ∀ t0, (s.controller.get d).lastResume = some t0 →
        (t0 + (s.policy.get d).minRun ≤ s.clock → serviceFree s d = true →
          exec (.hostRead addr len) s = .next { taken (.stalled s.clock .suspendRaised) s0 with
            service := s.service.set d (some { work := .suspend, addr := sector * 65536, behind := hostWaiting s d }) })
        ∧ (s.clock < t0 + (s.policy.get d).minRun →
          exec (.hostRead addr len) s = .next (taken (.stalled s.clock .minRun) s0)))
      ∧ ((s.policy.get d).autoSuspend = true → e.disabled = false → e.count = e.snapshot →
        ((s.controller.get d).budgetReported = false → falls { s0 with
          controller := s.controller.set d { s.controller.get d with budgetReported := true }
          notices := s0.notices.post (timeBase s)
            { kind := .budgetSpent, device := some d, address := some (lineOf base), entry := none, detail := 0 } })
        ∧ ((s.controller.get d).budgetReported = true → falls s0))
      ∧ ((s.policy.get d).autoSuspend = false ∨ e.disabled = true → falls s0))
    ∧ (∀ sector target o p e, (s.tracker.get d).record = .suspending sector target o p e → sector ≠ sectorOf base →
      exec (.hostRead addr len) s = .next (taken (.stalled s.clock .suspending) s0))
    ∧ (∀ sector target o p e, (s.tracker.get d).record = .suspended sector target o p e → sector ≠ sectorOf base →
      ((s.controller.get d).call = none → exec (.hostRead addr len) s = .next (forwarded s0))
      ∧ ∀ c, (s.controller.get d).call = some c → exec (.hostRead addr len) s = .next { forwarded s0 with
          controller := s.controller.set d { s.controller.get d with
            idleTimer := (s.controller.get d).idleTimer.map fun _ => s.clock
            call := if c = .holdMax then some .holdMax else none }
          service := match s.service.get d with
            | some q => if q.work = .resume .timers then s.service.set d none else s.service
            | none => s.service })

/-- Host writes in ARRAY, STATUS and REFUSED: a PROGRAM or ERASE word is held and, from STATUS, an ARRAY word raised at its
address; ARRAY, STATUS and CLEAR_STATUS words are forwarded, and end a refusal; any other word is absorbed with
SEQUENCE_REFUSED. A write is kept, the host waiting, while a status read or a cleanup write of its record is outstanding, or
while one whose handling would raise a transaction finds an earlier one of its device ungranted; when that has ended, or been
granted, it is taken as one that arrives then. That a transaction put on the list after the write had arrived holds it back
too is the model's choice (log 50). -/
def Obligations.WritesInArrayAndStatus : Prop :=
  ∀ (s : State) (addr : BitVec 25) (word : Word), HostReady s → LoaderIdle s →
    let a := addr.toNat
    let d := devOf a
    let forwarded (r : Record) (w : Word) : State :=
      { s.withRecord d r with hostPath := s.hostPath ++ [.write a w] }
    (TrackerSettled s d → hostWaiting s d = 0 →
    ((s.tracker.get d).record = .array ∨ (∃ sector, (s.tracker.get d).record = .refused sector) →
      exec (.hostWrite addr 0x3C11) s = .next (s.withRecord d (.heldProgram a))
      ∧ exec (.hostWrite addr 0x3C22) s = .next (s.withRecord d (.heldErase a))
      ∧ exec (.hostWrite addr 0x3C00) s = .next (forwarded .array 0x3C00)
      ∧ exec (.hostWrite addr 0x3C55) s = .next (forwarded (.status (sectorOf a)) 0x3C55)
      ∧ exec (.hostWrite addr 0x3C66) s = .next (forwarded .array 0x3C66))
    ∧ (∀ sector, (s.tracker.get d).record = .status sector →
      exec (.hostWrite addr 0x3C11) s = .next (forwarded (.heldProgram a) 0x3C00)
      ∧ exec (.hostWrite addr 0x3C22) s = .next (forwarded (.heldErase a) 0x3C00)
      ∧ exec (.hostWrite addr 0x3C00) s = .next (forwarded .array 0x3C00)
      ∧ exec (.hostWrite addr 0x3C55) s = .next (forwarded (.status (sectorOf a)) 0x3C55)
      ∧ exec (.hostWrite addr 0x3C66) s = .next (forwarded (.status sector) 0x3C66))
    ∧ (((s.tracker.get d).record = .array ∨ ∃ sector, (s.tracker.get d).record = .status sector
          ∨ (s.tracker.get d).record = .refused sector) →
      word ≠ 0x3C11 → word ≠ 0x3C22 → word ≠ 0x3C00 → word ≠ 0x3C55 → word ≠ 0x3C66 →
      exec (.hostWrite addr word) s = .next { s with notices := s.notices.post (timeBase s) (refusedPosting d a word) }))
    ∧ ((s.tracker.get d).kept = [] →
      ((s.tracker.get d).reading = true ∨ (∃ run, (s.tracker.get d).keptRun = some run)
          ∨ (∃ q, s.service.get d = some q ∧ (q.work = .resume .cleanup ∨ ∃ c, q.work = .arrayWrite c))
          ∨ (∃ x, s.bus = some (.service d (.resume .cleanup) x)) ∨ (∃ c x, s.bus = some (.service d (.arrayWrite c) x)) →
        exec (.hostWrite addr word) s = .next (s.keeping a word true))
      ∧ (stateUnsettled s d = false → hostWaiting s d ≠ 0 → (s.tracker.get d).record = .array →
        word = 0x3C00 ∨ word = 0x3C55 ∨ word = 0x3C66 →
        exec (.hostWrite addr word) s = .next (s.keeping a word false))
      ∧ (∀ t words work x, s.bus = some (.service d work x) →
        (work = .statusRead false ∧ (match (s.tracker.get d).record with
            | .busyProgram .. => True
            | .busyErase .. => True
            | .suspending .. => True
            | _ => False)) ∨ (∃ c, work = .arrayWrite c) ∨ work = .resume .cleanup →
        (∀ q, s.service.get d = some q → q.work ≠ .resume .cleanup ∧ q.work ≠ .resume .loader
          ∧ ∀ c, q.work ≠ .arrayWrite c) → (s.tracker.get d).keptRun = none →
        ((s.tracker.get d).reading = true ↔ work = .statusRead false) →
        exec (.memoryTransactionEnds words) s = .next t →
        exec (.memoryTransactionEnds words) (s.keeping a word true) = exec (.hostWrite addr word) t)
      ∧ (∀ b w rest first, s.bus = none → (∀ x, s.service.get x = none) → s.hostPath = .write b w :: rest → devOf b = d →
        w ≠ 0x3C44 → w ≠ 0x3C45 → stateUnsettled s d = false →
        exec (.memoryFaceGrant first) (s.keeping a word false)
          = exec (.hostWrite addr word) { s with bus := some (.host (.write b w)), hostPath := rest }))

/-- A write that completes a held sequence asks the guard about the target sector: OPEN raises the command pair and makes
the record busy; LOCKED or FROZEN forwards nothing, makes the record REFUSED and posts GUARD_REFUSED with the operation and
the sector's state. A write that does not complete a held program or erase discards it with SEQUENCE_REFUSED and is then
taken as in ARRAY: held anew, forwarded, or absorbed with a SEQUENCE_REFUSED of its own. -/
def Obligations.CompletedSequencesAskTheGuard : Prop :=
  ∀ (s : State) (addr : BitVec 25) (word : Word) (held : Nat), HostReady s → LoaderIdle s →
    let a := addr.toNat
    let d := devOf a
    let refusal (operation : Nat) (sector : Nat) : Posting :=
      { kind := .guardRefused, device := some d, address := some a, entry := none,
        detail := BitVec.ofNat 16 (operation * 256 + (lockAt s sector).code) }
    let broken (heldWord : Word) (r : Record) : State :=
      { s.withRecord d r with notices := s.notices.post (timeBase s) (refusedPosting d held heldWord) }
    let forwarded (heldWord : Word) (r : Record) (w : Word) : State :=
      { broken heldWord r with hostPath := s.hostPath ++ [.write a w] }
    TrackerSettled s d → hostWaiting s d = 0 →
    ((s.tracker.get d).record = .heldProgram a →
      (lockAt s (sectorOf a) = .opened → exec (.hostWrite addr word) s = .next { s with
        tracker := s.tracker.set d { s.tracker.get d with record := .busyProgram (sectorOf a) a word, armed := false }
        hostPath := s.hostPath ++ [.pair a 0x3C11 a word] })
      ∧ (lockAt s (sectorOf a) ≠ .opened → exec (.hostWrite addr word) s
          = .next { s.withRecord d (.refused (sectorOf a)) with
              notices := s.notices.post (timeBase s) (refusal 1 (sectorOf a)) }))
    ∧ ((s.tracker.get d).record = .heldErase held → sectorOf a = sectorOf held →
      (lockAt s (sectorOf a) = .opened → exec (.hostWrite addr 0x3CEE) s = .next { s with
        tracker := s.tracker.set d { s.tracker.get d with record := .busyErase (sectorOf a) a none, armed := false }
        hostPath := s.hostPath ++ [.pair held 0x3C22 a 0x3CEE] })
      ∧ (lockAt s (sectorOf a) ≠ .opened → exec (.hostWrite addr 0x3CEE) s
          = .next { s.withRecord d (.refused (sectorOf a)) with
              notices := s.notices.post (timeBase s) (refusal 2 (sectorOf a)) }))
    ∧ (∀ heldWord : Word,
      ((s.tracker.get d).record = .heldProgram held ∧ a ≠ held ∧ heldWord = 0x3C11)
        ∨ ((s.tracker.get d).record = .heldErase held ∧ (word ≠ 0x3CEE ∨ sectorOf a ≠ sectorOf held)
          ∧ heldWord = 0x3C22) →
      (word = 0x3C11 → exec (.hostWrite addr word) s = .next (broken heldWord (.heldProgram a)))
      ∧ (word = 0x3C22 → exec (.hostWrite addr word) s = .next (broken heldWord (.heldErase a)))
      ∧ (word = 0x3C00 → exec (.hostWrite addr word) s = .next (forwarded heldWord .array word))
      ∧ (word = 0x3C55 → exec (.hostWrite addr word) s = .next (forwarded heldWord (.status (sectorOf a)) word))
      ∧ (word = 0x3C66 → exec (.hostWrite addr word) s = .next (forwarded heldWord .array word))
      ∧ (word ≠ 0x3C11 → word ≠ 0x3C22 → word ≠ 0x3C00 → word ≠ 0x3C55 → word ≠ 0x3C66 →
        exec (.hostWrite addr word) s = .next { broken heldWord .array with
          notices := (broken heldWord .array).notices.post (timeBase s) (refusedPosting d a word) }))

/-- In PROBE and in ABSENT every host write is absorbed with SEQUENCE_REFUSED, the record stays, nothing is forwarded and
no sequence is held: nothing but the notice unit changes. -/
def Obligations.ProbeAndAbsentAbsorbEveryWrite : Prop :=
  ∀ (s : State) (addr : BitVec 25) (word : Word), HostReady s → LoaderIdle s → TrackerSettled s (devOf addr.toNat) →
    ((s.tracker.get (devOf addr.toNat)).record = .probe →
      exec (.hostWrite addr word) s
        = .next { s with notices := s.notices.post (timeBase s) (refusedPosting (devOf addr.toNat) addr.toNat word) })
    ∧ ((s.tracker.get .dev1).record = .absent → devOf addr.toNat = .dev1 →
      exec (.hostWrite addr word) s
        = .next { s with notices := s.notices.post (timeBase s) (refusedPosting .dev1 addr.toNat word) })

/-- In BUSY_PROGRAM, ARRAY, STATUS and CLEAR_STATUS words are absorbed silently and every other word with
SEQUENCE_REFUSED; the record is unchanged and nothing is forwarded. So it is in BUSY_ERASE, SUSPENDING and SUSPENDED, but for
two words: a SUSPEND is forwarded from BUSY_ERASE and elsewhere makes the owner HOST, which stops the part's timers and takes
back their RESUME; a RESUME sets pending-resume in SUSPENDING, and in SUSPENDED is forwarded, or absorbed silently while the
RESUME of a pending-resume waits. -/
def Obligations.BusyProgramAbsorbsEveryWrite : Prop :=
  ∀ (s : State) (addr : BitVec 25) (word : Word) (sector target : Nat), HostReady s → LoaderIdle s →
    let a := addr.toNat
    let d := devOf a
    let absorbed : State :=
      if word = 0x3C00 ∨ word = 0x3C55 ∨ word = 0x3C66 then s
      else { s with notices := s.notices.post (timeBase s) (refusedPosting d a word) }
    TrackerSettled s d →
    (∀ data : Word, (s.tracker.get d).record = .busyProgram sector target data →
      exec (.hostWrite addr word) s = .next absorbed)
    ∧ (∀ e, (s.tracker.get d).record = .busyErase sector target e →
      (word ≠ 0x3C44 → exec (.hostWrite addr word) s = .next absorbed)
      ∧ (hostWaiting s d = 0 → s.service.get d = none →
        exec (.hostWrite addr 0x3C44) s = .next { s.withRecord d (.suspending sector target .host false e) with
          hostPath := s.hostPath ++ [.write a 0x3C44] }))
    ∧ (∀ o p e, (s.tracker.get d).record = .suspending sector target o p e →
      (word ≠ 0x3C44 → word ≠ 0x3C45 → exec (.hostWrite addr word) s = .next absorbed)
      ∧ exec (.hostWrite addr 0x3C44) s = .next (s.withRecord d (.suspending sector target .host p e))
      ∧ exec (.hostWrite addr 0x3C45) s = .next (s.withRecord d (.suspending sector target o true e)))
    ∧ (∀ o p e, (s.tracker.get d).record = .suspended sector target o p e →
      let stopped (t : State) : State := { t with
        controller := s.controller.set d { s.controller.get d with idleTimer := none, holdTimer := none, call := none }
        service := match s.service.get d with
          | some q => if q.work = .resume .timers then s.service.set d none else s.service
          | none => s.service }
      (word ≠ 0x3C44 → word ≠ 0x3C45 → exec (.hostWrite addr word) s = .next absorbed)
      ∧ exec (.hostWrite addr 0x3C44) s = .next (stopped (s.withRecord d (.suspended sector target .host p e)))
      ∧ ((∀ q, s.service.get d = some q → q.work ≠ .resume .pendingResume) → hostWaiting s d = 0 →
        exec (.hostWrite addr 0x3C45) s = .next (stopped { s with
          tracker := s.tracker.set d { s.tracker.get d with record := .busyErase sector target e, armed := false }
          hostPath := s.hostPath ++ [.write a 0x3C45] }))
      ∧ (∀ q, s.service.get d = some q → q.work = .resume .pendingResume →
        exec (.hostWrite addr 0x3C45) s = .next s))

/-! ### The memory face -/

/-- A rise of the ready line ends a probe, a burst stalled in it being released, and the power-on load that waits for device
0 begins; in BUSY_PROGRAM and BUSY_ERASE, once the transaction that lowered the line has ended, and in SUSPENDING, it raises a
one-word status read at the first word of the command sector, a SUSPEND raised for a burst being withdrawn and the burst
waiting again (log 16); in every other state it is not consulted. A fall before that read shows READY drops the reading, the
read waiting or granted (log 13). -/
def Obligations.ReadyLineEndsProbesAndOperations : Prop :=
  ∀ (s : State) (d : Dev), LoaderQuiet s → BypassesPass s d → (s.controller.get d).call = none →
    let up : State := { s with readyLine := s.readyLine.set d true }
    let down : State := { s with readyLine := s.readyLine.set d false }
    let read (sector : Nat) : State := { up with
      tracker := s.tracker.set d { s.tracker.get d with reading := true }
      controller := s.controller.set d { s.controller.get d with suspendTimer := none }
      service := s.service.set d (some { work := .statusRead false, addr := sector * 65536, behind := hostWaiting s d }) }
    (match (s.tracker.get d).record with
      | .probe =>
        (d = .dev1 ∨ (∀ since, s.loader.state ≠ .waiting .powerOn since) →
          exec (.readyLineRises d) s = .next ((up.withRecord d .array).releases d))
        ∧ (∀ since, d = .dev0 → s.loader.state = .waiting .powerOn since →
          exec (.readyLineRises d) s = .next { (up.withRecord d .array).releases d with
            loader := { s.loader with state := .reading .powerOn 0 0 [] } })
      | .busyProgram sector _ _ =>
        (s.tracker.get d).reading = false → s.service.get d = none →
        exec (.readyLineRises d) s = .next (if (s.tracker.get d).armed then read sector else up)
      | .busyErase sector _ _ =>
        (s.tracker.get d).reading = false →
        (s.service.get d = none → (∀ r since, ¬ StalledBurst s d r since .suspendRaised) →
          exec (.readyLineRises d) s = .next (if (s.tracker.get d).armed then read sector else up))
        ∧ ∀ r since q, StalledBurst s d r since .suspendRaised → s.service.get d = some q → q.work = .suspend →
          exec (.readyLineRises d) s = .next (if (s.tracker.get d).armed then { read sector with
            host := { s.host with transaction := .read { r with stage := .stalled since .minRun } } } else up)
      | .suspending sector _ _ _ _ =>
        (s.tracker.get d).keptRun = none → s.service.get d = none →
        exec (.readyLineRises d) s = .next (if (s.tracker.get d).reading then up else read sector)
      | _ => exec (.readyLineRises d) s = .next up)
    ∧ ((s.tracker.get d).reading = false → exec (.readyLineFalls d) s = .next down)
    ∧ ((s.tracker.get d).reading = true →
      let dropped : State := { down with tracker := s.tracker.set d { s.tracker.get d with reading := false } }
      (∀ q, s.service.get d = some q → q.work = .statusRead false → s.bus = none →
        exec (.readyLineFalls d) s = .next { dropped with
          service := s.service.set d (some { q with work := .statusRead true }) })
      ∧ (∀ a, s.service.get d = none → s.bus = some (.service d (.statusRead false) a) →
        exec (.readyLineFalls d) s = .next { dropped with bus := some (.service d (.statusRead true) a) }))

/-- With the bus FREE the arbiter grants the first grantable request: tracker service, then the oldest host path
transaction, then the loader, then the fill engine. A tracker service request waits for the host path transactions of its
device raised before it, and each of them granted brings it one nearer. The grant of a missed or TRAP burst's read restarts a
running resume_idle (at this moment: log 17), that of a fill's read has its line in flight, and a status read's, an ARRAY
write's, another read's and a word's that is neither SUSPEND nor RESUME change nothing else. While the bus is BUSY nothing is
granted. -/
def Obligations.ArbiterGrantsInItsOrder : Prop :=
  ∀ (s : State) (first : Dev), ∃ t, exec (.memoryFaceGrant first) s = .next t ∧
    (∀ x, s.bus = some x → t.bus = some x ∧ (LoaderPassive s → t = s))
    ∧ (s.bus = none →
      let grantable (d : Dev) : Prop := ∃ q, s.service.get d = some q ∧ q.behind = 0
      (∀ d q, s.service.get d = some q → q.behind = 0 → (d = first ∨ ¬ grantable first) →
        let taken : State := { s with bus := some (.service d q.work q.addr), service := s.service.set d none }
        t.bus = some (.service d q.work q.addr)
        ∧ (∀ c, q.work = .statusRead c → LoaderPassive taken → t = taken)
        ∧ (∀ c, q.work = .arrayWrite c → LoaderPassive s → t = taken))
      ∧ ((∀ d, ¬ grantable d) →
        (∀ x rest, s.hostPath = x :: rest →
          let near : State := { s with
            bus := some (.host x)
            hostPath := rest
            service := s.service.set x.dev ((s.service.get x.dev).map fun q => { q with behind := q.behind - 1 }) }
          t.bus = some (.host x)
          ∧ (LoaderPassive s → (s.tracker.get x.dev).kept = [] →
            ((∀ r, s.host.transaction = .read r → r.stage = .deferred → devOf r.addr ≠ x.dev) →
              t.service = near.service ∧ t.hostPath = rest)
            ∧ (∀ a n bypass discard, x = .read a n bypass discard →
              t = if bypass || discard then near else { near with
                controller := s.controller.set (devOf a) { s.controller.get (devOf a) with
                  idleTimer := (s.controller.get (devOf a)).idleTimer.map fun _ => s.clock } })
            ∧ (∀ a w, x = .write a w → w ≠ 0x3C44 → w ≠ 0x3C45 → t = near)))
        ∧ (s.hostPath = [] →
          (∀ a n, loaderRequest s = some (a, n) → t = { s with bus := some (.loader a n) })
          ∧ (loaderRequest s = none →
            (∀ line, fillRequest s = some line → t.bus = some (.fill (line * 16))
              ∧ ∀ j, s.fill.job = some j → LoaderPassive s → t = { s with
                  bus := some (.fill (line * 16))
                  fill := { s.fill with job := some { j with stage := .reading } } })
            ∧ (fillRequest s = none → t.bus = none ∧ (LoaderPassive s → t = s))))))

/-- At the forwarding of an erase's pair the suspend count is 0, auto-suspend-disabled clear and the snapshot the budget of
the device's policy; the forwarding is the last resume, the budget-reported flag is clear, and one SHADOWED_WRITE (ERASE) is
posted for each follow = no entry that intersects the sector, in ascending position. At the forwarding of a program's pair
one SHADOWED_WRITE (PROGRAM) is posted for a follow = no entry that covers the target line. A burst deferred to the pair is
decided then: of a program it falls to the miss policy, of an erase it waits for min_run where a suspension is available. -/
def Obligations.ErasePairForwardingSetsTheEraseFields : Prop :=
  ∀ (s : State) (first d : Dev) (held a sector target : Nat) (w data : Word), LoaderIdle s →
    s.bus = none → (∀ x, s.service.get x = none) → devOf held = d → (s.tracker.get d).kept = [] →
    let granted (pair : HostTxn) : State := { s with bus := some (.host pair), hostPath := [] }
    let shadows (detail : Word) (hit : Entry → Bool) : NoticeUnit :=
      (((activeEntries s.active).filter fun p => p.2.shadows && hit p.2).map (·.1)).foldl
        (fun n p => n.post (timeBase s)
          { kind := .shadowedWrite, device := some d, address := some a, entry := some p, detail := detail }) s.notices
    let decided (r : ReadRecord) (why : StallWhy) (t : State) : State :=
      { t with host := { s.host with transaction := .read { r with stage := .stalled s.clock why } } }
    let undeferred : Prop := ∀ r, s.host.transaction = .read r → r.stage = .deferred → devOf r.addr ≠ d
    (s.hostPath = [.pair held 0x3C22 a 0x3CEE] → (s.tracker.get d).record = .busyErase sector target none →
      let e : EraseFields := { count := 0, snapshot := (s.policy.get d).budget, disabled := false }
      let t : State := { granted (.pair held 0x3C22 a 0x3CEE) with
        tracker := s.tracker.set d { s.tracker.get d with record := .busyErase sector target (some e) }
        controller := s.controller.set d
          { lastResume := some s.clock, budgetReported := false, suspendTimer := none, idleTimer := none,
            holdTimer := none, call := none }
        notices := shadows 2 fun e => e.intersects (sectorOf held) }
      (undeferred → exec (.memoryFaceGrant first) s = .next t)
      ∧ (∀ r, s.host.transaction = .read r → r.stage = .deferred → devOf r.addr = d →
        (s.policy.get d).autoSuspend = true → 0 < (s.policy.get d).budget → 0 < (s.policy.get d).minRun →
        exec (.memoryFaceGrant first) s = .next (decided r .minRun t)))
    ∧ (s.hostPath = [.pair held 0x3C11 a w] → (s.tracker.get d).record = .busyProgram sector target data →
      let t : State := { granted (.pair held 0x3C11 a w) with notices := shadows 1 fun e => e.covers (lineOf a) }
      (undeferred → exec (.memoryFaceGrant first) s = .next t)
      ∧ (∀ r, s.host.transaction = .read r → r.stage = .deferred → devOf r.addr = d → r.cls ≠ .bypass →
        ((s.policy.get d).missPolicy = .stall → exec (.memoryFaceGrant first) s = .next (decided r .policy t))
        ∧ ((s.policy.get d).missPolicy = .pass → (s.controller.get d).call = none →
          exec (.memoryFaceGrant first) s = .next (t.released r))))

/-- A SUSPEND of the part becomes SUSPENDING with owner PART at its forwarding, the count one higher and the suspend timer
started, and the burst it serves waits for the outcome. A RESUME of the timers, of a pending-resume or of the loader becomes
BUSY_ERASE and the last resume, and the timers stop; a burst stalled until then waits for min_run where a suspension is
available. A RESUME of cleanup becomes the last resume and stops the timers, and its record stays until it has ended. The
host's own SUSPEND starts the suspend timer at its forwarding, unless the status read of a rise is deciding the record, and
its own RESUME becomes the last resume. That a burst that had fallen to the miss policy in BUSY_ERASE is decided afresh with
one stalled in SUSPENDING is the model's choice (log 46), and so is when the host's SUSPEND starts the timer after a rise
(log 48). -/
def Obligations.SuspendAndResumeAreForwarded : Prop :=
  ∀ (s : State) (first d : Dev) (a sector target : Nat) (e : EraseFields), s.bus = none →
    (∀ x, x ≠ d → s.service.get x = none) →
    (∀ r since, LoaderQuiet s → s.service.get d = some { work := .suspend, addr := a, behind := 0 } →
      (s.tracker.get d).record = .busyErase sector target (some e) →
      s.host.transaction = .read r → r.stage = .stalled since .suspendRaised → devOf r.addr = d →
      exec (.memoryFaceGrant first) s = .next { s with
        bus := some (.service d .suspend a)
        service := s.service.set d none
        tracker := s.tracker.set d { s.tracker.get d with
          record := .suspending sector target .part false (some { e with count := e.count + 1 }) }
        controller := s.controller.set d { s.controller.get d with suspendTimer := some s.clock }
        host := { s.host with transaction := .read { r with stage := .stalled since .suspending } } })
    ∧ (∀ cause o p, LoaderQuiet s ∨ d = .dev0 → s.service.get d = some { work := .resume cause, addr := a, behind := 0 } →
      (s.tracker.get d).record = .suspended sector target o p (some e) →
      let resumed (record : Record) : State := { s with
        bus := some (.service d (.resume cause) a)
        service := s.service.set d none
        tracker := s.tracker.set d { s.tracker.get d with record := record, armed := false }
        controller := s.controller.set d { s.controller.get d with
          lastResume := some s.clock, idleTimer := none, holdTimer := none, call := none } }
      let t := resumed (.busyErase sector target (some e))
      (cause = .cleanup → LoaderQuiet s →
        exec (.memoryFaceGrant first) s = .next (resumed (.suspended sector target o p (some e))))
      ∧ (cause ≠ .cleanup →
        (NothingStalled s d → exec (.memoryFaceGrant first) s = .next t)
        ∧ (∀ r since why, StalledBurst s d r since why → pairWaits s d = false → (s.policy.get d).autoSuspend = true →
          e.disabled = false → e.count < e.snapshot → 0 < (s.policy.get d).minRun →
          exec (.memoryFaceGrant first) s
            = .next { t with host := { s.host with transaction := .read { r with stage := .stalled since .minRun } } })))
    ∧ (∀ rest, LoaderPassive s → (∀ q, s.service.get d = some q → q.behind ≠ 0) → devOf a = d →
      (s.tracker.get d).kept = [] →
      let granted (w : Word) : State := { s with
        bus := some (.host (.write a w))
        hostPath := rest
        service := s.service.set d ((s.service.get d).map fun q => { q with behind := q.behind - 1 }) }
      (∀ o p x, s.hostPath = .write a 0x3C44 :: rest → (s.tracker.get d).record = .suspending sector target o p x →
        ((s.tracker.get d).reading = true → exec (.memoryFaceGrant first) s = .next (granted 0x3C44))
        ∧ ((s.tracker.get d).reading = false → exec (.memoryFaceGrant first) s = .next { granted 0x3C44 with
          controller := s.controller.set d { s.controller.get d with suspendTimer := some s.clock } }))
      ∧ (s.hostPath = .write a 0x3C45 :: rest →
        exec (.memoryFaceGrant first) s = .next { granted 0x3C45 with
          controller := s.controller.set d { s.controller.get d with lastResume := some s.clock } }))

/-- The status read of a program or an erase ends: READY with no fail flag posts OP_DONE and makes the record STATUS, handing
over a follow run: the word of a follow = yes entry over the target, or the slots of such entries' lines in the erased
sector; READY with a fail flag posts OP_FAILED and hands over none; READY clear raises the read again. While the follow list
holds a run of the device the run is kept back and the record stays as it is, OP_DONE posted. A burst stalled for the device
is released as the record enters STATUS, or SUSPENDED without a pending-resume. In SUSPENDING a word with SUSPENDED is a
suspension, the timers started for the part's own and a RESUME raised for a pending-resume; without it the erase has ended.
After a suspend timeout a word with SUSPENDED is a late suspension, the part's. The run handed over begins at once (the
model's deduction, log 26); that its words are fixed at the end of the status read, from the ACTIVE bank in force then, is the
model's choice (log 54). -/
def Obligations.StatusReadDecidesTheProgram : Prop :=
  ∀ (s : State) (d : Dev) (words : LineWords) (addr sector target : Nat), LoaderQuiet s →
    BypassesPass s d → (s.controller.get d).call = none → (s.tracker.get d).kept = [] → (s.tracker.get d).keptRun = none → s.service.get d = none →
    s.bus = some (.service d (.statusRead false) addr) →
    let w := words[0]
    let settled (kind : NoticeKind) : State := { s with
      bus := none
      tracker := s.tracker.set d { s.tracker.get d with record := .status sector, armed := false, reading := false }
      controller := s.controller.set d Controller.lapsed
      notices := s.notices.post (timeBase s)
        { kind := kind, device := some d, address := some target, entry := none, detail := w } }
    let again : State := { s with
      bus := none
      tracker := s.tracker.set d { s.tracker.get d with reading := true }
      service := s.service.set d (some { work := .statusRead false, addr := sector * 65536, behind := hostWaiting s d }) }
    let suspended (o : Owner) (p : Bool) (e : Option EraseFields) (armed : Bool) : State := { s with
      bus := none
      tracker := s.tracker.set d { s.tracker.get d with
        record := .suspended sector target o p e, armed := armed, reading := false } }
    let timed (t : State) : State := { t with
      controller := s.controller.set d { s.controller.get d with
        idleTimer := some s.clock, holdTimer := some s.clock, call := none } }
    let slots : List Nat := (activeEntries s.active).flatMap fun p => match p.2.mode with
      | .replace slot true _ =>
        ((List.range p.2.lineCount).filter fun k => (p.2.firstLine + k) / 4096 = sector).map fun k => slot + k
      | _ => []
    let ends (run : Option FollowRun) : Prop :=
      ((w.getLsbD 5 || w.getLsbD 4 || w.getLsbD 3) = true →
        exec (.memoryTransactionEnds words) s = .next ((settled .opFailed).releases d))
      ∧ ((w.getLsbD 5 || w.getLsbD 4 || w.getLsbD 3) = false →
        (run = none → exec (.memoryTransactionEnds words) s = .next ((settled .opDone).releases d))
        ∧ (∀ x, run = some x → (s.follow.current = none → s.follow.waiting = []) →
          ((∀ z ∈ s.follow.waiting, z.dev ≠ d) → exec (.memoryTransactionEnds words) s
            = .next { (settled .opDone).releases d with follow :=
                if s.follow.current = none then { current := some x, waiting := [] }
                else { s.follow with waiting := s.follow.waiting ++ [x] } })
          ∧ ((∃ z ∈ s.follow.waiting, z.dev = d) → exec (.memoryTransactionEnds words) s = .next { s with
              bus := none
              tracker := s.tracker.set d { s.tracker.get d with armed := false, reading := false, keptRun := some x }
              notices := s.notices.post (timeBase s)
                { kind := .opDone, device := some d, address := some target, entry := none, detail := w } })))
    let eraseEnds : Prop := ends (if slots = [] then none else some (.erase d slots 0))
    (∀ data : Word, (s.tracker.get d).record = .busyProgram sector target data →
      (w.getLsbD 7 = true →
        ((∀ p e, lookup s.active (lineOf target) = some (p, e) → e.followSlot = none) → ends none)
        ∧ (∀ p e slot, lookup s.active (lineOf target) = some (p, e) → e.followSlot = some slot →
          ends (some (.program d (slot + (lineOf target - e.firstLine)) (target % 16) data))))
      ∧ (w.getLsbD 7 = false → exec (.memoryTransactionEnds words) s = .next again))
    ∧ (∀ e : Option EraseFields, (s.tracker.get d).record = .busyErase sector target e →
      (∀ x, e = some x → x.disabled = true → w.getLsbD 6 = true →
        exec (.memoryTransactionEnds words) s = .next ((timed (suspended .part false e false)).releases d))
      ∧ (e = none ∨ (∃ x, e = some x ∧ x.disabled = false) ∨ w.getLsbD 6 = false →
        (w.getLsbD 7 = true → eraseEnds)
        ∧ (w.getLsbD 7 = false → exec (.memoryTransactionEnds words) s = .next again)))
    ∧ (∀ o p e, (s.tracker.get d).record = .suspending sector target o p e →
      (w.getLsbD 6 = true →
        (p = true → exec (.memoryTransactionEnds words) s = .next
          { suspended o true e (s.tracker.get d).armed with
            service := s.service.set d (some { work := .resume .pendingResume, addr := sector * 65536,
                                               behind := hostWaiting s d }) })
        ∧ (p = false → o = .host →
          exec (.memoryTransactionEnds words) s = .next ((suspended .host false e (s.tracker.get d).armed).releases d))
        ∧ (p = false → o = .part →
          exec (.memoryTransactionEnds words) s
            = .next ((timed (suspended .part false e (s.tracker.get d).armed)).releases d)))
      ∧ (w.getLsbD 6 = false →
        (w.getLsbD 7 = true → eraseEnds)
        ∧ (w.getLsbD 7 = false → exec (.memoryTransactionEnds words) s = .next again)))

/-- The end of a forwarded burst's transaction answers the first words the device returned and completes the burst, a TRAP
hit counting on its entry when the generation is the one it noted and on none when its position is empty now, and takes the
switch of a commit that waited for this completion; a RESUME that the timers called for is raised as the last forwarded read
of its device ends; a dropped burst's words are discarded; a fill line's words are put in the line buffer for a slot neither
live nor protected, and otherwise the fill stops with FILL_FAILED, with CLEARED also where its abort cause is ABORTED (the
model's choice, log 38). The end of a command pair or of any RESUME leaves the line low and makes the next rise a completion;
the end of a cleanup ARRAY write, or of the loader's, makes a STATUS record ARRAY, and the end of a cleanup RESUME makes a
SUSPENDED one BUSY_ERASE. The end of a SUSPEND of the part, and of a status read whose reading was dropped, frees the bus and
does no more. -/
def Obligations.TransactionEndDeliversItsWords : Prop :=
  ∀ (s : State) (words : LineWords) (a n : Nat) (bypass : Bool),
    let resumed (t : State) : State := match (s.controller.get (devOf a)).call, (s.tracker.get (devOf a)).record with
      | some _, .suspended sector _ .part _ _ =>
        if s.service.get (devOf a) = none ∧ readOutstanding { s with bus := none } (devOf a) = false then
          { t with
            service := s.service.set (devOf a)
              (some { work := .resume .timers, addr := sector * 65536, behind := hostWaiting s (devOf a) }) }
        else t
      | _, _ => t
    (∀ r, LoaderPassive s → s.bus = some (.host (.read a n bypass false)) → s.host.transaction = .read r →
      let done : State := resumed
        { s with bus := none, host := { s.host with transaction := .none, dataOut := words.toList.take n } }
      ((∀ p m k, r.cls ≠ .hit p m k) → CompletesRead r.line done (exec (.memoryTransactionEnds words) s))
      ∧ (∀ p m k e, r.cls = .hit p m k → activeAt s.active p = some e →
        CompletesRead r.line (if r.generation = s.generation then done.counted p e else done)
          (exec (.memoryTransactionEnds words) s))
      ∧ (∀ p m k, r.cls = .hit p m k → activeAt s.active p = none →
        CompletesRead r.line done (exec (.memoryTransactionEnds words) s)))
    ∧ (LoaderPassive s → s.bus = some (.host (.read a n bypass true)) →
      exec (.memoryTransactionEnds words) s = .next (resumed { s with bus := none }))
    ∧ (∀ j, LoaderPassive s → s.bus = some (.fill a) → s.fill.job = some j →
      let slot := j.firstSlot + s.fill.progress
      (live s slot = false → stagedProtected s slot = false →
        exec (.memoryTransactionEnds words) s = .next { s with
          bus := none, fill := { s.fill with job := some { j with stage := .writing words 0 } } })
      ∧ (live s slot = true ∨ stagedProtected s slot = true →
        exec (.memoryTransactionEnds words) s = .next { s with
          bus := none
          fill := { s.fill with job := none }
          notices := s.notices.post (timeBase s)
            { kind := .fillFailed, device := some (devOfLine j.firstLine), address := some (j.firstLine + s.fill.progress),
              entry := j.target, detail := 2 } }))
    ∧ (∀ d, let ended (record : Record) : State := { s with
          bus := none
          readyLine := s.readyLine.set d false
          tracker := s.tracker.set d { s.tracker.get d with record := record, armed := true } }
      (∀ held hw b w, LoaderPassive s → s.bus = some (.host (.pair held hw b w)) → devOf held = d →
        exec (.memoryTransactionEnds words) s = .next (ended (s.tracker.get d).record))
      ∧ (∀ b, LoaderPassive s → s.bus = some (.host (.write b 0x3C45)) → devOf b = d →
        exec (.memoryTransactionEnds words) s = .next (ended (s.tracker.get d).record))
      ∧ (∀ b w, LoaderPassive s → s.bus = some (.host (.write b w)) → w ≠ 0x3C45 →
        exec (.memoryTransactionEnds words) s = .next { s with bus := none })
      ∧ (∀ cause b, s.bus = some (.service d (.resume cause) b) → (s.tracker.get d).kept = [] →
        (cause ≠ .cleanup → LoaderPassive s →
          exec (.memoryTransactionEnds words) s = .next (ended (s.tracker.get d).record))
        ∧ (∀ sector target o p e, cause = .cleanup → LoaderPassive s ∨ d = .dev0 →
          (s.tracker.get d).record = .suspended sector target o p e →
          exec (.memoryTransactionEnds words) s = .next (ended (.busyErase sector target e))))
      ∧ (∀ c b sector, LoaderPassive s ∨ d = .dev0 → s.bus = some (.service d (.arrayWrite c) b) →
        (s.tracker.get d).kept = [] → (s.tracker.get d).record = .status sector →
        exec (.memoryTransactionEnds words) s = .next ({ s with bus := none }.withRecord d .array))
      ∧ (∀ b, LoaderPassive s → s.bus = some (.service d .suspend b) →
        exec (.memoryTransactionEnds words) s = .next { s with bus := none })
      ∧ (∀ b, LoaderPassive s → s.bus = some (.service d (.statusRead true) b) →
        exec (.memoryTransactionEnds words) s = .next { s with bus := none }))

/-! ### The store port -/

/-- The store port takes the waiting access of the highest requester: that of a dropped burst, a REPLACE burst's word, then a
follow word, then verification, the fill engine, the loader and the management link. -/
def Obligations.StorePortTakesTheHighestRequester : Prop :=
  ∀ s : State, (∀ a, s.host.dropped = some a → portChoice s = some .dropped)
  ∧ (s.host.dropped = none →
    (∀ r p slot follow check k, s.host.transaction = .read r → r.stage = .store →
      r.cls = .hit p (.replace slot follow check) k → portChoice s = some (.hit r slot k))
    ∧ ((∀ r, s.host.transaction = .read r → r.stage ≠ .store) →
      (∀ run, s.follow.current = some run → portChoice s = some (.follow run))
      ∧ (s.follow.current = none →
        (∀ f c, s.commit = .verifying f c → portChoice s = some (.verify f c))
        ∧ ((∀ f c, s.commit ≠ .verifying f c) →
          (∀ j b o, s.fill.job = some j → j.stage = .writing b o → portChoice s = some (.fill j b o))
          ∧ ((∀ j b o, s.fill.job = some j → j.stage ≠ .writing b o) →
            (∀ og i p b w, s.loader.state = .applying og i p b w → portChoice s = some (.loader og i p b w))
            ∧ ((∀ og i p b w, s.loader.state ≠ .applying og i p b w) →
              (∀ p, s.link.processing = some p → portChoice s = some (.management p))
              ∧ (s.link.processing = none → portChoice s = none)))))))

/-- Accesses applied whole: that of a dropped burst answers no word; a REPLACE burst is answered with the word its slot holds
now, and its last word completes it and counts it, but on no entry where its position is empty now; a program's follow write
stores the AND of the word and the data; an erase's writes 0xFFFF, each slot's words in ascending order and the slots in
their order, and the next run begins after its last (at once: log 26), a run kept back being handed over, and its record
entering STATUS, once the list holds none of its device; a verification read folds its word, and an entry's last one ends in
CHECK_MISMATCH, goes on to the next checked entry, or ends verification in the switch or its wait; a fill write stores its
word and folds it, and the last of a line goes on to the next, stops an aborted fill, or ends the fill with FILL_DONE and its
target's check field; a management write stores its word and advances the pointer, or, at a live or protected slot, ends with
the refusal, the count written and the pointer where it was; a management read takes its word and advances the pointer, and
its last is answered with the words; either, where it reaches the end of store with words left, ends with BAD_ARG and the
words done. The end of a loader's verification, in the switch or in CHECK_MISMATCH, is followed by LOAD_DONE and the release,
and its wait for a read in progress is not. -/
def Obligations.StorePortAppliesTheAccess : Prop :=
  ∀ s : State, (LoaderIdle s →
    (∀ r slot k, portChoice s = some (.hit r slot k) →
      let w := s.store.read ((slot + k) * 16 + (r.addr % 16 + s.host.dataOut.length))
      let done : State := { s with host := { s.host with transaction := .none, dataOut := s.host.dataOut ++ [w] } }
      (s.host.dataOut.length + 1 < r.count →
        exec .storePortAccess s = .next { s with host := { s.host with dataOut := s.host.dataOut ++ [w] } })
      ∧ (∀ p m kk e, r.count ≤ s.host.dataOut.length + 1 → r.cls = .hit p m kk → activeAt s.active p = some e →
        CompletesRead r.line (if r.generation = s.generation then done.counted p e else done) (exec .storePortAccess s))
      ∧ (∀ p m kk, r.count ≤ s.host.dataOut.length + 1 → r.cls = .hit p m kk → activeAt s.active p = none →
        CompletesRead r.line done (exec .storePortAccess s)))
    ∧ (∀ d slot o data, portChoice s = some (.follow (.program d slot o data)) → s.follow.waiting = [] →
      (∀ x, (s.tracker.get x).keptRun = none) →
      exec .storePortAccess s = .next { s with
        store := s.store.write (slot * 16 + o) (s.store.read (slot * 16 + o) &&& data)
        follow := { current := none, waiting := [] } })
    ∧ (∀ d slot rest o, portChoice s = some (.follow (.erase d (slot :: rest) o)) →
      (∀ x, (s.tracker.get x).keptRun = none) →
      let written (current : Option FollowRun) (waiting : List FollowRun) : State := { s with
        store := s.store.write (slot * 16 + o) 0xFFFF
        follow := { current := current, waiting := waiting } }
      (o < 15 → exec .storePortAccess s = .next (written (some (.erase d (slot :: rest) (o + 1))) s.follow.waiting))
      ∧ (15 ≤ o → rest ≠ [] → exec .storePortAccess s = .next (written (some (.erase d rest 0)) s.follow.waiting))
      ∧ (15 ≤ o → rest = [] → s.follow.waiting = [] → exec .storePortAccess s = .next (written none []))
      ∧ (∀ run more, 15 ≤ o → rest = [] → s.follow.waiting = run :: more →
        exec .storePortAccess s = .next (written (some run) more)))
    ∧ (∀ last address value d run sector x more, portChoice s = some (.follow last) →
      (∃ y slot o data, last = .program y slot o data ∧ address = slot * 16 + o ∧ value = s.store.read address &&& data)
        ∨ (∃ y slot, last = .erase y [slot] 15 ∧ address = slot * 16 + 15 ∧ value = 0xFFFF) →
      s.follow.waiting = x :: more → (s.tracker.get d).keptRun = some run →
      (s.tracker.get d).record.commandSector = some sector → (s.tracker.get d).kept = [] → BypassesPass s d →
      (∀ y, y ≠ d → (s.tracker.get y).keptRun = none ∨ ∃ z ∈ more, z.dev = y) →
      let written (waiting : List FollowRun) : State := { s with
        store := s.store.write address value
        follow := { current := some x, waiting := waiting } }
      ((∃ z ∈ more, z.dev = d) → exec .storePortAccess s = .next (written more))
      ∧ ((∀ z ∈ more, z.dev ≠ d) → exec .storePortAccess s = .next (State.releases d { written (more ++ [run]) with
          tracker := s.tracker.set d { s.tracker.get d with
            record := .status sector, armed := false, reading := false, keptRun := none }
          controller := s.controller.set d Controller.lapsed })))
    ∧ (∀ f c e slot follow want, portChoice s = some (.verify f c) → s.host.loadHold = false →
      (∀ addr n, s.host.transaction ≠ .heldRead addr n) → (∀ addr w, s.host.transaction ≠ .heldWrite addr w) →
      stagedAt s.staged c.position = some e → e.mode = .replace slot follow (some want) →
      let check := crcWord c.check (s.store.read (slot * 16 + c.index))
      (c.index + 1 < e.lineCount * 16 → exec .storePortAccess s
        = .next { s with commit := .verifying f { c with index := c.index + 1, check := check } })
      ∧ (e.lineCount * 16 ≤ c.index + 1 →
        (check ≠ want → exec .storePortAccess s = .next { s with
          commit := .idle
          notices := s.notices.post (timeBase s)
            { kind := .commitRejected, device := none, address := none, entry := some c.position, detail := 5 } })
        ∧ (check = want →
          (∀ p, nextChecked s.staged (c.position + 1) = some p → exec .storePortAccess s
            = .next { s with commit := .verifying f { position := p, index := 0, check := 0xFFFF } })
          ∧ (nextChecked s.staged (c.position + 1) = none →
            (f.mode = .immediate → readInProgress s = false → exec .storePortAccess s = .next s.switched)
            ∧ (f.mode = .immediate → readInProgress s = true →
              exec .storePortAccess s = .next { s with commit := .pendingBoundary f })
            ∧ (∀ mark expiry, f.mode = .atMark mark expiry →
              exec .storePortAccess s = .next { s with commit := .pendingMark f s.clock })))))
    ∧ (∀ j buffer o, portChoice s = some (.fill j buffer o) → ∀ h : o < 16,
      let slot := j.firstSlot + s.fill.progress
      let line := j.firstLine + s.fill.progress
      let written (job : Option FillJob) (progress : Nat) : State := { s with
        store := s.store.write (slot * 16 + o) buffer[o]
        fill := { job := job, progress := progress } }
      let check := crcWord j.check buffer[o]
      let filled : State := { written none (s.fill.progress + 1) with
        notices := s.notices.post (timeBase s)
          { kind := .fillDone, device := some (devOfLine j.firstLine), address := some j.firstLine, entry := j.target,
            detail := check } }
      live s slot = false → stagedProtected s slot = false →
      (o < 15 → exec .storePortAccess s
        = .next (written (some { j with check := check, stage := .writing buffer (o + 1) }) s.fill.progress))
      ∧ (o = 15 →
        (∀ cause, j.abort = some cause → exec .storePortAccess s = .next { written none (s.fill.progress + 1) with
          notices := s.notices.post (timeBase s)
            { kind := .fillFailed, device := some (devOfLine j.firstLine), address := some (line + 1), entry := j.target,
              detail := match cause with
                | .aborted => 1
                | .cleared => 2 } })
        ∧ (j.abort = none → s.fill.progress + 1 ≠ j.lineCount → exec .storePortAccess s
          = .next (written (some { j with check := check, stage := .waiting }) (s.fill.progress + 1)))
        ∧ (j.abort = none → s.fill.progress + 1 = j.lineCount →
          (∀ t e first follow old, j.target = some t → s.commit = .idle → stagedAt s.staged t = some e →
            e.mode = .replace first follow old →
            exec .storePortAccess s = .next { filled with
              staged := s.staged.setIfInBounds t (some { e with mode := .replace first follow (some check) }) })
          ∧ (j.target = none ∨ s.commit ≠ .idle
              ∨ (∃ t, j.target = some t ∧ ∀ e first follow old, stagedAt s.staged t = some e →
                  e.mode ≠ .replace first follow old) →
            exec .storePortAccess s = .next filled))))
    ∧ (∀ p n words, portChoice s = some (.management p) → p.work = .read (n + 1) words →
      let next := s.ptr.next
      let read := words ++ [s.store.read (s.ptr.slot * 16 + s.ptr.offset)]
      (n ≠ 0 → next.slot ≠ 2048 → exec .storePortAccess s = .next { s with
        ptr := next, link := { s.link with processing := some { p with work := .read n read } } })
      ∧ (n = 0 ∨ next.slot = 2048 → p.superseded = false → s.link.pendingResponse = none → s.link.waiting = none →
        exec .storePortAccess s = .next { s with
          ptr := next
          link := { s.link with
            processing := none
            slot := some { position := 0, response :=
              { tag := p.frame.tag, status := if n = 0 then .ok else .badArg,
                payload := be16 read.length ++ be16 next.slot ++ be8 next.offset
                  ++ read.flatMap fun w => be16 w.toNat } } } }))
    ∧ (∀ p w x rest count, portChoice s = some (.management p) → p.work = .write (w :: x :: rest) count →
      let next := s.ptr.next
      (live s s.ptr.slot = false → stagedProtected s s.ptr.slot = false → next.slot ≠ 2048 →
        exec .storePortAccess s = .next { s with
          store := s.store.write (s.ptr.slot * 16 + s.ptr.offset) w
          ptr := next
          link := { s.link with processing := some { p with work := .write (x :: rest) (count + 1) } } })
      ∧ (live s s.ptr.slot = false → stagedProtected s s.ptr.slot = false → next.slot = 2048 → p.superseded = false →
        s.link.pendingResponse = none → s.link.waiting = none →
        exec .storePortAccess s = .next { s with
          store := s.store.write (s.ptr.slot * 16 + s.ptr.offset) w
          ptr := next
          link := { s.link with
            processing := none
            slot := some { position := 0, response :=
              { tag := p.frame.tag, status := .badArg,
                payload := be16 (count + 1) ++ be16 next.slot ++ be8 next.offset } } } })
      ∧ (live s s.ptr.slot = true ∨ stagedProtected s s.ptr.slot = true → p.superseded = false →
        s.link.pendingResponse = none → s.link.waiting = none →
        exec .storePortAccess s = .next { s with link := { s.link with
          processing := none
          slot := some { position := 0, response :=
            { tag := p.frame.tag, status := if live s s.ptr.slot then .refusedLive else .refusedState,
              payload := be16 count ++ be16 s.ptr.slot ++ be8 s.ptr.offset } } } })))
    ∧ (∀ origin n f c e slot follow want, s.loader.state = .committing origin n → s.host.loadHold = true →
      portChoice s = some (.verify f c) → f.mode = .immediate →
      stagedAt s.staged c.position = some e → e.mode = .replace slot follow (some want) →
      let check := crcWord c.check (s.store.read (slot * 16 + c.index))
      (c.index + 1 < e.lineCount * 16 → exec .storePortAccess s
        = .next { s with commit := .verifying f { c with index := c.index + 1, check := check } })
      ∧ (e.lineCount * 16 ≤ c.index + 1 →
        (check ≠ want → ReleasesHost s (State.loadDone n { s with
          commit := .idle
          notices := s.notices.post (timeBase s)
            { kind := .commitRejected, device := none, address := none, entry := some c.position, detail := 5 } })
          (exec .storePortAccess s))
        ∧ (check = want →
          (∀ p, nextChecked s.staged (c.position + 1) = some p → exec .storePortAccess s
            = .next { s with commit := .verifying f { position := p, index := 0, check := 0xFFFF } })
          ∧ (nextChecked s.staged (c.position + 1) = none →
            (readInProgress s = false → ReleasesHost s (s.switched.loadDone n) (exec .storePortAccess s))
            ∧ (readInProgress s = true → exec .storePortAccess s = .next { s with commit := .pendingBoundary f })))))
    ∧ (LoaderPassive s → portChoice s = some .dropped →
      exec .storePortAccess s = .next { s with host := { s.host with dropped := none } })

/-! ### Timers -/

/-- The stall timeout completes a stalled miss or TRAP hit with the policy's fault word in every word and posts
STALL_TIMEOUT, the TRAP hit's position as its entry and its hit counted, on no entry where its position is empty now; a
commit that waited for this completion switches; the tracker record and its suspension are as they were. That STALL_TIMEOUT
stands before a COMMIT_TAKEN of the same completion is the model's choice (log 19). -/
def Obligations.StallTimeoutAnswersTheFaultWord : Prop :=
  ∀ (s : State) (r : ReadRecord) (since : Nat) (why : StallWhy), s.host.transaction = .read r →
    r.stage = .stalled since why →
    let d := devOf r.addr
    let now := max s.clock (since + (s.policy.get d).stallTimeout)
    let done (entry : Option Nat) : State := { s with
      clock := now
      host := { s.host with transaction := .none, dataOut := List.replicate r.count (s.policy.get d).faultWord }
      notices := s.notices.post (BitVec.ofNat 32 now)
        { kind := .stallTimeout, device := some d, address := some r.line, entry := entry, detail := 0 }
      service := match s.service.get d with
        | some q => if q.work = .suspend then s.service.set d none else s.service
        | none => s.service }
    (r.cls = .miss → CompletesRead r.line (done none) (exec .stallTimeout s))
    ∧ (∀ p k e, r.cls = .hit p .trap k → activeAt s.active p = some e →
      CompletesRead r.line (if r.generation = s.generation then (done (some p)).counted p e else done (some p))
        (exec .stallTimeout s))
    ∧ (∀ p k, r.cls = .hit p .trap k → activeAt s.active p = none →
      CompletesRead r.line (done (some p)) (exec .stallTimeout s))

/-- The suspend timeout: SUSPEND_FAILED with the target word address; the record is BUSY_ERASE again, the count keeps the
attempt and auto-suspend-disabled is set, and a burst stalled in SUSPENDING falls to the miss policy, but one that fell to it
before. Once a rise has been taken it does not occur. That it takes no write kept for a status read that a fall has dropped is
the model's choice (log 55). -/
def Obligations.SuspendTimeoutDisablesSuspension : Prop :=
  ∀ (s : State) (d : Dev) (sector target : Nat) (o : Owner) (p : Bool) (e : EraseFields) (t0 : Nat),
    BypassesPass s d → (s.controller.get d).call = none → (s.tracker.get d).record = .suspending sector target o p (some e) →
    ((s.tracker.get d).reading = false → (s.controller.get d).suspendTimer = some t0 →
      let now := max s.clock (t0 + 100)
      exec (.suspendTimeout d) s = .next (State.fallsToPolicy d { s with
        clock := now
        tracker := s.tracker.set d { s.tracker.get d with
          record := .busyErase sector target (some { e with disabled := true }) }
        controller := s.controller.set d { s.controller.get d with suspendTimer := none }
        notices := s.notices.post (BitVec.ofNat 32 now)
          { kind := .suspendFailed, device := some d, address := some target, entry := none, detail := 0 } }))
    ∧ ((s.tracker.get d).reading = true → exec (.suspendTimeout d) s = .next s)

/-- At min_run's end a waiting burst's availability is decided again: still available, its SUSPEND is raised, and otherwise
the burst falls to the miss policy, forwarded under PASS. A part-owned suspension is called to resume when resume_idle or
hold_max ends, and the RESUME is raised at the first word of the command sector when no forwarded read is outstanding, and is
only called for while one is, or while another request of the tracker stands. A timer whose call stands calls no second time. -/
def Obligations.BusyServiceTimersRaiseTheirRequests : Prop :=
  ∀ (s : State) (d : Dev) (sector target t0 : Nat) (e : EraseFields) (p : Bool),
    (∀ r since, s.host.transaction = .read r → r.stage = .stalled since .minRun → devOf r.addr = d →
      (s.tracker.get d).record = .busyErase sector target (some e) → (s.controller.get d).lastResume = some t0 →
      let later : State := { s with clock := max s.clock (t0 + (s.policy.get d).minRun) }
      (s.service.get d = none → (s.tracker.get d).reading = false → (s.tracker.get d).keptRun = none →
        (s.policy.get d).autoSuspend = true → e.disabled = false → e.count < e.snapshot →
        exec .minRunElapses s = .next { later with
          host := { s.host with transaction := .read { r with stage := .stalled since .suspendRaised } }
          service := s.service.set d (some { work := .suspend, addr := sector * 65536, behind := hostWaiting s d }) })
      ∧ ((s.policy.get d).autoSuspend = false ∨ e.disabled = true →
        ((s.policy.get d).missPolicy = .stall → exec .minRunElapses s = .next { later with
          host := { s.host with transaction := .read { r with stage := .stalled since .policy } } })
        ∧ ((s.policy.get d).missPolicy = .pass → r.cls = .miss → (s.controller.get d).call = none →
          exec .minRunElapses s = .next { later with
            host := { s.host with transaction := .read { r with stage := .forwarded } }
            hostPath := s.hostPath ++ [.read r.addr r.count false false] })))
    ∧ ((s.tracker.get d).record = .suspended sector target .part p (some e) →
      let called (now : Nat) (call : ResumeCall) : State := { s with
        clock := now
        controller := s.controller.set d { s.controller.get d with call := some call } }
      let raised (now : Nat) (call : ResumeCall) : State := { called now call with
        service := s.service.set d (some { work := .resume .timers, addr := sector * 65536, behind := hostWaiting s d }) }
      ((s.controller.get d).idleTimer = some t0 →
        let now := max s.clock (t0 + (s.policy.get d).resumeIdle)
        ((s.controller.get d).call = none →
          (s.service.get d = none → readOutstanding s d = false →
            exec (.resumeIdleTimerExpires d) s = .next (raised now .idle))
          ∧ ((∃ q, s.service.get d = some q) ∨ readOutstanding s d = true →
            exec (.resumeIdleTimerExpires d) s = .next (called now .idle)))
        ∧ (∀ c, (s.controller.get d).call = some c → exec (.resumeIdleTimerExpires d) s = .next s))
      ∧ ((s.controller.get d).holdTimer = some t0 →
        let now := max s.clock (t0 + (s.policy.get d).holdMax)
        ((s.controller.get d).call ≠ some .holdMax →
          (s.service.get d = none → readOutstanding s d = false →
            exec (.holdMaxTimerExpires d) s = .next (raised now .holdMax))
          ∧ ((∃ q, s.service.get d = some q) ∨ readOutstanding s d = true →
            exec (.holdMaxTimerExpires d) s = .next (called now .holdMax)))
        ∧ ((s.controller.get d).call = some .holdMax → exec (.holdMaxTimerExpires d) s = .next s)))

/-- A commit still waiting for its mark when its expiry, in milliseconds, has passed ends with COMMIT_EXPIRED and no switch;
a commit in any other state does not expire. -/
def Obligations.CommitExpiresWithoutASwitch : Prop :=
  ∀ (s : State) (f : InFlight) (mark expiry since : Nat),
    (s.commit = .pendingMark f since → f.mode = .atMark mark expiry →
      let now := max s.clock (since + expiry * 1000)
      exec .commitExpired s = .next { s with
        clock := now
        commit := .idle
        notices := s.notices.post (BitVec.ofNat 32 now)
          { kind := .commitExpired, device := none, address := none, entry := none, detail := 0 } })
    ∧ ((∀ g t, s.commit ≠ .pendingMark g t) → exec .commitExpired s = .next s)

/-- The loader leaves WAITING for record 0 once no fill runs, the boot area's first line is readable and device 0's record
keeps no host write (the last is the model's choice, log 41); the probe timeout with device 0 still in PROBE ends the load
with LOAD_ERROR (NO_DEVICE), the STAGED bank empty and the host released, and a transaction held is then taken as one that
arrives. -/
def Obligations.LoaderStartsOrTimesOut : Prop :=
  ∀ (s : State) (origin : LoadOrigin) (since : Nat), s.loader.state = .waiting origin since →
    (s.fill.job = none → readable s (s.loader.bootSector * 4096) = true → s.tracker.dev0.kept = [] →
      exec .loadBegins s = .next { s with loader := { s.loader with state := .reading origin 0 0 [] } })
    ∧ ((∃ j, s.fill.job = some j) ∨ readable s (s.loader.bootSector * 4096) = false ∨ s.tracker.dev0.kept ≠ [] →
      exec .loadBegins s = .next s)
    ∧ (s.tracker.dev0.record = .probe →
      let now := max s.clock (since + 50000)
      ReleasesHost s { s with
        clock := now
        loader := { s.loader with state := .idle }
        staged := Vector.replicate 64 none
        notices := s.notices.post (BitVec.ofNat 32 now)
          { kind := .loadError, device := some .dev0, address := none, entry := none, detail := 0x0800 } }
        (exec .probeTimeout s))
    ∧ (s.tracker.dev0.record ≠ .probe → exec .probeTimeout s = .next s)

/-- The words of a loader read join the record buffer until the record is whole. A length above 4,200, a record that leaves
the boot area, a whole record that fails a check, and after 128 records or at the area's last word the beginning of a further
one, stop the load with LOAD_ERROR, the STAGED bank empty and the host released. A valid OVERLAY record without inline data
is staged with its fields, and one with inline data writes its words at the store port first; a LOCK record's triples are
applied in order, FROZEN sectors skipped; a POLICY record replaces a policy and an ENABLE record the enable set; the next
record follows. A valid END record commits the STAGED bank: a bank that fails validation is rejected with its notice, one
with a check value goes to verification, and one with neither switches at once or waits for the read in progress; the
rejection and the switch are followed by LOAD_DONE with the record count and the release. At a release a transaction held is
taken as one that arrives. -/
def Obligations.LoaderReadsCheckAndEndTheLoad : Prop :=
  (∀ (s : State) (words : LineWords) (origin : LoadOrigin) (index position a n : Nat) (buffer : List Word),
    s.loader.state = .reading origin index position buffer → s.bus = some (.loader a n) → n ≤ 16 →
    let record := buffer ++ words.toList.take n
    let start := position - buffer.length
    let body (i : Nat) : Nat := (record.getD (i + 2) 0).toNat
    let stopped (reason : Nat) : State := { s with
      bus := none
      loader := { s.loader with state := .idle }
      staged := Vector.replicate 64 none
      notices := s.notices.post (timeBase s)
        { kind := .loadError, device := some .dev0, address := some (s.loader.bootSector * 65536 + start), entry := none,
          detail := BitVec.ofNat 16 (reason * 256 + index) } }
    let whole := 2 ≤ record.length ∧ recordLength record ≤ 4200 ∧ start + recordLength record + 3 ≤ 65536
      ∧ recordLength record + 3 ≤ record.length
    let f : InFlight := { mode := .immediate, origin := .loader }
    let committing (c : Commit) : State := { s with
      bus := none, commit := c, loader := { s.loader with state := .committing origin (index + 1) } }
    let released (t : State) : Prop := ReleasesHost s t (exec (.memoryTransactionEnds words) s)
    let follows (t : State) : Prop :=
      let ended (reason : Nat) : State := { t with
        bus := none
        loader := { s.loader with state := .idle }
        staged := Vector.replicate 64 none
        notices := t.notices.post (timeBase s)
          { kind := .loadError, device := some .dev0, address := some (s.loader.bootSector * 65536 + (position + n)),
            entry := none, detail := BitVec.ofNat 16 (reason * 256 + (index + 1)) } }
      (index < 127 → position + n + 2 ≤ 65536 → exec (.memoryTransactionEnds words) s = .next { t with
        bus := none, loader := { s.loader with state := .reading origin (index + 1) (position + n) [] } })
      ∧ (127 ≤ index → released (ended 1))
      ∧ (index < 127 → 65536 < position + n + 2 → released (ended 2))
    (record.length < 2 → exec (.memoryTransactionEnds words) s = .next { s with
      bus := none, loader := { s.loader with state := .reading origin index (position + n) record } })
    ∧ (2 ≤ record.length → 4200 < recordLength record → released (stopped 3))
    ∧ (2 ≤ record.length → recordLength record ≤ 4200 → 65536 < start + recordLength record + 3 → released (stopped 2))
    ∧ (2 ≤ record.length → recordLength record ≤ 4200 → start + recordLength record + 3 ≤ 65536 →
      record.length < recordLength record + 3 → exec (.memoryTransactionEnds words) s = .next { s with
        bus := none, loader := { s.loader with state := .reading origin index (position + n) record } })
    ∧ (∀ reason, whole → recordFailure s record = some reason → released (stopped reason.code))
    ∧ (whole → recordFailure s record = none →
      (recordType record = 1 → body 10 = 0 → follows { s with
        staged := s.staged.setIfInBounds (body 0) (some
          { firstLine := body 2 * 65536 + body 3, lineCount := body 4,
            mode := if body 1 = 1 then .replace (body 5) (body 6 = 1)
                  (if body 7 = 1 then some (BitVec.ofNat 16 (body 8)) else none)
              else if body 1 = 2 then .blank (BitVec.ofNat 16 (body 9)) else .trap }) })
      ∧ (recordType record = 1 → body 10 = 1 →
        exec (.memoryTransactionEnds words) s = .next { s with
          bus := none, loader := { s.loader with state := .applying origin index (position + n) record 0 } })
      ∧ (recordType record = 2 →
        ∃ t, follows t ∧ t = { s with locks := t.locks }
          ∧ ∀ i, i < 512 → lockAt t i = (List.range (recordLength record / 3)).foldl (fun l k =>
              if body (3 * k) ≤ i ∧ i < body (3 * k) + body (3 * k + 1) ∧ l ≠ .frozen then
                if body (3 * k + 2) = 0 then .opened else if body (3 * k + 2) = 1 then .locked else .frozen
              else l) (lockAt s i))
      ∧ (recordType record = 3 → follows { s with
          policy := s.policy.set (if body 0 = 0 then .dev0 else .dev1)
            { missPolicy := if body 1 = 0 then .stall else .pass, autoSuspend := body 2 = 1, budget := body 3,
              resumeIdle := body 4, minRun := body 5, holdMax := body 6, stallTimeout := body 7,
              faultWord := BitVec.ofNat 16 (body 8) } })
      ∧ (recordType record = 4 →
        ∃ t, follows t ∧ t = { s with notices := { s.notices with enabled := t.notices.enabled } }
          ∧ ∀ (k : Nat) (h : k < 18), t.notices.enabled[k]
              = if k < 16 then (record.getD 2 0).getLsbD k else (record.getD 3 0).getLsbD (k - 16)))
    ∧ (whole → recordFailure s record = none → recordType record = 5 →
      (∀ r, validate s.straps.twoDevices s.staged = some r → released (State.loadDone (index + 1) { s with
        bus := none
        commit := .idle
        notices := s.notices.post (timeBase s)
          { kind := .commitRejected, device := none, address := r.address, entry := some r.position,
            detail := r.detail } }))
      ∧ (validate s.straps.twoDevices s.staged = none →
        (∀ p, nextChecked s.staged 0 = some p → s.host.loadHold = true →
          exec (.memoryTransactionEnds words) s
            = .next (committing (.verifying f { position := p, index := 0, check := 0xFFFF })))
        ∧ (nextChecked s.staged 0 = none →
          (readInProgress s = false → released ({ s with bus := none }.switched.loadDone (index + 1)))
          ∧ (readInProgress s = true →
            exec (.memoryTransactionEnds words) s = .next (committing (.pendingBoundary f)))))))
  ∧ ∀ (s : State) (origin : LoadOrigin) (index position written i : Nat) (e : Entry) (buffer : List Word),
    portChoice s = some (.loader origin index position buffer written) → overlayEntry buffer = some (i, e) →
    let slot := bodyWord buffer 5 + written / 16
    let stored : State := { s with
      store := s.store.write (slot * 16 + written % 16) (buffer.getD (13 + written) 0) }
    live s slot = false → stagedProtected s slot = false →
    let stopped (reason : Nat) : State := { stored with
      loader := { s.loader with state := .idle }
      staged := Vector.replicate 64 none
      notices := s.notices.post (timeBase s)
        { kind := .loadError, device := some .dev0, address := some (s.loader.bootSector * 65536 + position),
          entry := none, detail := BitVec.ofNat 16 (reason * 256 + (index + 1)) } }
    (written + 1 < bodyWord buffer 4 * 16 → exec .storePortAccess s
      = .next { stored with loader := { s.loader with state := .applying origin index position buffer (written + 1) } })
    ∧ (bodyWord buffer 4 * 16 ≤ written + 1 →
      (index < 127 → position + 2 ≤ 65536 → exec .storePortAccess s = .next { stored with
        staged := s.staged.setIfInBounds i (some e)
        loader := { s.loader with state := .reading origin (index + 1) position [] } })
      ∧ (127 ≤ index → ReleasesHost s (stopped 1) (exec .storePortAccess s))
      ∧ (index < 127 → 65536 < position + 2 → ReleasesHost s (stopped 2) (exec .storePortAccess s)))

/-! ### The whole machine -/

/-- Validation passes a bank exactly when it obeys the laws of the ACTIVE bank, every entry having a line. When it fails, the
positions below the one at fault pass, and the reason is the first of the four that holds of that position, with its address:
its first line, the lowest line it shares with the lowest position that shares one, or none. -/
def Obligations.ValidationPassesOnlyLawfulBanks : Prop :=
  ∀ (two : Bool) (b : StagedBank),
    (validate two b = none → Lawful two b)
    ∧ ((∀ i e, stagedAt b i = some e → 1 ≤ e.lineCount) → Lawful two b → validate two b = none)
    ∧ ∀ r, validate two b = some r → ∃ e, stagedAt b r.position = some e
      ∧ validate two (Vector.ofFn fun i : Fin 64 => if i.val < r.position then (b[i.val]?).join else none) = none
      ∧ (let line := 2097152 < e.firstLine + e.lineCount ∨ (e.covers 1048575 = true ∧ e.covers 1048576 = true)
          ∨ (two = false ∧ 1048576 < e.firstLine + e.lineCount)
        let slot := ∃ first follow check, e.mode = .replace first follow check ∧ 2048 < first + e.lineCount
        let lines (j : Nat) (x : Nat) := j < r.position ∧ ∃ q, stagedAt b j = some q ∧ q.covers x = true
          ∧ e.covers x = true
        (r.detail = 4 ∧ line ∧ r.address = some e.firstLine)
        ∨ (r.detail = 3 ∧ ¬ line ∧ slot ∧ r.address = none)
        ∨ (r.detail = 1 ∧ ¬ line ∧ ¬ slot ∧ ∃ j x, lines j x ∧ r.address = some x
            ∧ (∀ k y, lines k y → j ≤ k) ∧ ∀ y, lines j y → x ≤ y)
        ∨ (r.detail = 2 ∧ ¬ line ∧ ¬ slot ∧ (∀ j x, ¬ lines j x) ∧ r.address = none
            ∧ ∃ j q n, j < r.position ∧ stagedAt b j = some q ∧ q.references n = true ∧ e.references n = true))

/-- The laws of the ACTIVE bank, and of the STAGED bank while a commit is in flight, outlast every step. -/
def Obligations.BanksStaySound : Prop :=
  ∀ s t : State, BanksSound s → step s = .next t → BanksSound t

/-- The laws of the notice unit outlast every step, and so do those of the store, its pointer and the fill engine. -/
def Obligations.NoticesAndStoreStaySound : Prop :=
  (∀ s t : State, NoticesSound s.notices → step s = .next t → NoticesSound t.notices)
  ∧ ∀ s t : State, StoreSound s → step s = .next t → StoreSound t

/-- The state after power-on reset obeys the laws of the banks, of the notice unit and of the store. -/
def Obligations.ResetIsSound : Prop :=
  BanksSound State.reset ∧ NoticesSound State.reset.notices ∧ StoreSound State.reset

/-- Power-on apart, a FROZEN sector stays FROZEN whatever is commanded, and no command pair is raised for a sector that is
not OPEN. -/
def Obligations.ProtectedSectorsStayProtected : Prop :=
  ∀ (c : Instr) (s t : State), ¬ IsPowerOn c → exec c s = .next t →
    (∀ i, lockAt s i = .frozen → lockAt t i = .frozen)
    ∧ ∀ held hw a w, HostTxn.pair held hw a w ∈ t.hostPath → HostTxn.pair held hw a w ∉ s.hostPath →
        lockAt t (sectorOf held) = .opened

/-- Power-on apart, the ACTIVE bank's entries change only as a whole: every command, a request's arguments no longer than a
frame carries, leaves them and the generation as they were, or makes them all the STAGED bank's with the generation one
higher. -/
def Obligations.SwitchIsWhole : Prop :=
  ∀ (c : Instr) (s t : State), c.wellFormed = true → ¬ IsPowerOn c → exec c s = .next t →
    (t.generation = s.generation ∧ entriesOf t.active = entriesOf s.active)
    ∨ (t.generation = s.generation + 1 ∧ entriesOf t.active = t.staged)

/-- Power-on apart, the store changes only at the store port, and there no access but a follow write changes a word of a
live slot. -/
def Obligations.LiveSlotsChangeOnlyByFollowWrites : Prop :=
  ∀ (c : Instr) (s t : State), ¬ IsPowerOn c → StoreSound s → exec c s = .next t →
    (c ≠ .storePortAccess → t.store = s.store)
    ∧ ((∀ run, portChoice s ≠ some (.follow run)) → ∀ slot offset, live s slot = true → offset ≤ 15 →
        storeRead t slot offset = storeRead s slot offset)

end
end

