-- ==== Sys2Proof/Laws/State.lean ====
section
/-! SUPPORT. One lemma for each field and each update of the state, and the two laws of a pair of devices. -/

namespace Sys2Proof.Machine

section

variable {α : Type} (p : PerDev α) (d : Dev) (a b : α)

@[simp] theorem perDev_get_dev0 : p.get .dev0 = p.dev0 := rfl
@[simp] theorem perDev_get_dev1 : p.get .dev1 = p.dev1 := rfl
@[simp] theorem perDev_get_set : (p.set d a).get d = a := by cases d <;> rfl
@[simp] theorem perDev_set_get : p.set d (p.get d) = p := by cases d <;> rfl
@[simp] theorem perDev_set_set : (p.set d a).set d b = p.set d b := by cases d <;> rfl

theorem perDev_get_set_other {e : Dev} (h : e ≠ d) : (p.set d a).get e = p.get e := by
  cases d <;> cases e <;> first | rfl | exact absurd rfl h

end

variable (s : State)

/-! ### post -/

@[simp] theorem post_notices (p : Posting) : (post p s).notices = s.notices.post (timeBase s) p := rfl
@[simp] theorem post_clock (p : Posting) : (post p s).clock = s.clock := rfl
@[simp] theorem post_straps (p : Posting) : (post p s).straps = s.straps := rfl
@[simp] theorem post_active (p : Posting) : (post p s).active = s.active := rfl
@[simp] theorem post_staged (p : Posting) : (post p s).staged = s.staged := rfl
@[simp] theorem post_generation (p : Posting) : (post p s).generation = s.generation := rfl
@[simp] theorem post_commit (p : Posting) : (post p s).commit = s.commit := rfl
@[simp] theorem post_store (p : Posting) : (post p s).store = s.store := rfl
@[simp] theorem post_ptr (p : Posting) : (post p s).ptr = s.ptr := rfl
@[simp] theorem post_fill (p : Posting) : (post p s).fill = s.fill := rfl
@[simp] theorem post_follow (p : Posting) : (post p s).follow = s.follow := rfl
@[simp] theorem post_readyLine (p : Posting) : (post p s).readyLine = s.readyLine := rfl
@[simp] theorem post_tracker (p : Posting) : (post p s).tracker = s.tracker := rfl
@[simp] theorem post_locks (p : Posting) : (post p s).locks = s.locks := rfl
@[simp] theorem post_policy (p : Posting) : (post p s).policy = s.policy := rfl
@[simp] theorem post_controller (p : Posting) : (post p s).controller = s.controller := rfl
@[simp] theorem post_host (p : Posting) : (post p s).host = s.host := rfl
@[simp] theorem post_bus (p : Posting) : (post p s).bus = s.bus := rfl
@[simp] theorem post_hostPath (p : Posting) : (post p s).hostPath = s.hostPath := rfl
@[simp] theorem post_service (p : Posting) : (post p s).service = s.service := rfl
@[simp] theorem post_loader (p : Posting) : (post p s).loader = s.loader := rfl
@[simp] theorem post_link (p : Posting) : (post p s).link = s.link := rfl
@[simp] theorem post_pending (p : Posting) : (post p s).pending = s.pending := rfl

/-! ### runTo -/

@[simp] theorem runTo_clock (n : Nat) : (runTo n s).clock = max s.clock n := rfl
@[simp] theorem runTo_straps (n : Nat) : (runTo n s).straps = s.straps := rfl
@[simp] theorem runTo_active (n : Nat) : (runTo n s).active = s.active := rfl
@[simp] theorem runTo_staged (n : Nat) : (runTo n s).staged = s.staged := rfl
@[simp] theorem runTo_generation (n : Nat) : (runTo n s).generation = s.generation := rfl
@[simp] theorem runTo_commit (n : Nat) : (runTo n s).commit = s.commit := rfl
@[simp] theorem runTo_store (n : Nat) : (runTo n s).store = s.store := rfl
@[simp] theorem runTo_ptr (n : Nat) : (runTo n s).ptr = s.ptr := rfl
@[simp] theorem runTo_fill (n : Nat) : (runTo n s).fill = s.fill := rfl
@[simp] theorem runTo_follow (n : Nat) : (runTo n s).follow = s.follow := rfl
@[simp] theorem runTo_readyLine (n : Nat) : (runTo n s).readyLine = s.readyLine := rfl
@[simp] theorem runTo_tracker (n : Nat) : (runTo n s).tracker = s.tracker := rfl
@[simp] theorem runTo_locks (n : Nat) : (runTo n s).locks = s.locks := rfl
@[simp] theorem runTo_policy (n : Nat) : (runTo n s).policy = s.policy := rfl
@[simp] theorem runTo_controller (n : Nat) : (runTo n s).controller = s.controller := rfl
@[simp] theorem runTo_host (n : Nat) : (runTo n s).host = s.host := rfl
@[simp] theorem runTo_bus (n : Nat) : (runTo n s).bus = s.bus := rfl
@[simp] theorem runTo_hostPath (n : Nat) : (runTo n s).hostPath = s.hostPath := rfl
@[simp] theorem runTo_service (n : Nat) : (runTo n s).service = s.service := rfl
@[simp] theorem runTo_notices (n : Nat) : (runTo n s).notices = s.notices := rfl
@[simp] theorem runTo_loader (n : Nat) : (runTo n s).loader = s.loader := rfl
@[simp] theorem runTo_link (n : Nat) : (runTo n s).link = s.link := rfl
@[simp] theorem runTo_pending (n : Nat) : (runTo n s).pending = s.pending := rfl

/-! ### tick -/

@[simp] theorem tick_clock : (tick s).clock = s.clock + 1 := rfl
@[simp] theorem tick_straps : (tick s).straps = s.straps := rfl
@[simp] theorem tick_active : (tick s).active = s.active := rfl
@[simp] theorem tick_staged : (tick s).staged = s.staged := rfl
@[simp] theorem tick_generation : (tick s).generation = s.generation := rfl
@[simp] theorem tick_commit : (tick s).commit = s.commit := rfl
@[simp] theorem tick_store : (tick s).store = s.store := rfl
@[simp] theorem tick_ptr : (tick s).ptr = s.ptr := rfl
@[simp] theorem tick_fill : (tick s).fill = s.fill := rfl
@[simp] theorem tick_follow : (tick s).follow = s.follow := rfl
@[simp] theorem tick_readyLine : (tick s).readyLine = s.readyLine := rfl
@[simp] theorem tick_tracker : (tick s).tracker = s.tracker := rfl
@[simp] theorem tick_locks : (tick s).locks = s.locks := rfl
@[simp] theorem tick_policy : (tick s).policy = s.policy := rfl
@[simp] theorem tick_controller : (tick s).controller = s.controller := rfl
@[simp] theorem tick_host : (tick s).host = s.host := rfl
@[simp] theorem tick_bus : (tick s).bus = s.bus := rfl
@[simp] theorem tick_hostPath : (tick s).hostPath = s.hostPath := rfl
@[simp] theorem tick_service : (tick s).service = s.service := rfl
@[simp] theorem tick_notices : (tick s).notices = s.notices := rfl
@[simp] theorem tick_loader : (tick s).loader = s.loader := rfl
@[simp] theorem tick_link : (tick s).link = s.link := rfl
@[simp] theorem tick_pending : (tick s).pending = s.pending := rfl

/-! ### storeWrite -/

@[simp] theorem storeWrite_store (slot offset : Nat) (w : Word) : (storeWrite slot offset w s).store = s.store.write (storeAddr slot offset) w := rfl
@[simp] theorem storeWrite_clock (slot offset : Nat) (w : Word) : (storeWrite slot offset w s).clock = s.clock := rfl
@[simp] theorem storeWrite_straps (slot offset : Nat) (w : Word) : (storeWrite slot offset w s).straps = s.straps := rfl
@[simp] theorem storeWrite_active (slot offset : Nat) (w : Word) : (storeWrite slot offset w s).active = s.active := rfl
@[simp] theorem storeWrite_staged (slot offset : Nat) (w : Word) : (storeWrite slot offset w s).staged = s.staged := rfl
@[simp] theorem storeWrite_generation (slot offset : Nat) (w : Word) : (storeWrite slot offset w s).generation = s.generation := rfl
@[simp] theorem storeWrite_commit (slot offset : Nat) (w : Word) : (storeWrite slot offset w s).commit = s.commit := rfl
@[simp] theorem storeWrite_ptr (slot offset : Nat) (w : Word) : (storeWrite slot offset w s).ptr = s.ptr := rfl
@[simp] theorem storeWrite_fill (slot offset : Nat) (w : Word) : (storeWrite slot offset w s).fill = s.fill := rfl
@[simp] theorem storeWrite_follow (slot offset : Nat) (w : Word) : (storeWrite slot offset w s).follow = s.follow := rfl
@[simp] theorem storeWrite_readyLine (slot offset : Nat) (w : Word) : (storeWrite slot offset w s).readyLine = s.readyLine := rfl
@[simp] theorem storeWrite_tracker (slot offset : Nat) (w : Word) : (storeWrite slot offset w s).tracker = s.tracker := rfl
@[simp] theorem storeWrite_locks (slot offset : Nat) (w : Word) : (storeWrite slot offset w s).locks = s.locks := rfl
@[simp] theorem storeWrite_policy (slot offset : Nat) (w : Word) : (storeWrite slot offset w s).policy = s.policy := rfl
@[simp] theorem storeWrite_controller (slot offset : Nat) (w : Word) : (storeWrite slot offset w s).controller = s.controller := rfl
@[simp] theorem storeWrite_host (slot offset : Nat) (w : Word) : (storeWrite slot offset w s).host = s.host := rfl
@[simp] theorem storeWrite_bus (slot offset : Nat) (w : Word) : (storeWrite slot offset w s).bus = s.bus := rfl
@[simp] theorem storeWrite_hostPath (slot offset : Nat) (w : Word) : (storeWrite slot offset w s).hostPath = s.hostPath := rfl
@[simp] theorem storeWrite_service (slot offset : Nat) (w : Word) : (storeWrite slot offset w s).service = s.service := rfl
@[simp] theorem storeWrite_notices (slot offset : Nat) (w : Word) : (storeWrite slot offset w s).notices = s.notices := rfl
@[simp] theorem storeWrite_loader (slot offset : Nat) (w : Word) : (storeWrite slot offset w s).loader = s.loader := rfl
@[simp] theorem storeWrite_link (slot offset : Nat) (w : Word) : (storeWrite slot offset w s).link = s.link := rfl
@[simp] theorem storeWrite_pending (slot offset : Nat) (w : Word) : (storeWrite slot offset w s).pending = s.pending := rfl

/-! ### switchBanks -/

@[simp] theorem switchBanks_active : (switchBanks s).active = s.staged.map fun e => e.map fun e => { entry := e, hitCount := 0 } := rfl
@[simp] theorem switchBanks_generation : (switchBanks s).generation = s.generation + 1 := rfl
@[simp] theorem switchBanks_commit : (switchBanks s).commit = .idle := rfl
@[simp] theorem switchBanks_clock : (switchBanks s).clock = s.clock := rfl
@[simp] theorem switchBanks_straps : (switchBanks s).straps = s.straps := rfl
@[simp] theorem switchBanks_staged : (switchBanks s).staged = s.staged := rfl
@[simp] theorem switchBanks_store : (switchBanks s).store = s.store := rfl
@[simp] theorem switchBanks_ptr : (switchBanks s).ptr = s.ptr := rfl
@[simp] theorem switchBanks_fill : (switchBanks s).fill = s.fill := rfl
@[simp] theorem switchBanks_follow : (switchBanks s).follow = s.follow := rfl
@[simp] theorem switchBanks_readyLine : (switchBanks s).readyLine = s.readyLine := rfl
@[simp] theorem switchBanks_tracker : (switchBanks s).tracker = s.tracker := rfl
@[simp] theorem switchBanks_locks : (switchBanks s).locks = s.locks := rfl
@[simp] theorem switchBanks_policy : (switchBanks s).policy = s.policy := rfl
@[simp] theorem switchBanks_controller : (switchBanks s).controller = s.controller := rfl
@[simp] theorem switchBanks_host : (switchBanks s).host = s.host := rfl
@[simp] theorem switchBanks_bus : (switchBanks s).bus = s.bus := rfl
@[simp] theorem switchBanks_hostPath : (switchBanks s).hostPath = s.hostPath := rfl
@[simp] theorem switchBanks_service : (switchBanks s).service = s.service := rfl
@[simp] theorem switchBanks_loader : (switchBanks s).loader = s.loader := rfl
@[simp] theorem switchBanks_link : (switchBanks s).link = s.link := rfl
@[simp] theorem switchBanks_pending : (switchBanks s).pending = s.pending := rfl

/-! ### emptyStaged -/

@[simp] theorem emptyStaged_staged : (emptyStaged s).staged = Vector.replicate 64 none := rfl
@[simp] theorem emptyStaged_clock : (emptyStaged s).clock = s.clock := rfl
@[simp] theorem emptyStaged_straps : (emptyStaged s).straps = s.straps := rfl
@[simp] theorem emptyStaged_active : (emptyStaged s).active = s.active := rfl
@[simp] theorem emptyStaged_generation : (emptyStaged s).generation = s.generation := rfl
@[simp] theorem emptyStaged_commit : (emptyStaged s).commit = s.commit := rfl
@[simp] theorem emptyStaged_store : (emptyStaged s).store = s.store := rfl
@[simp] theorem emptyStaged_ptr : (emptyStaged s).ptr = s.ptr := rfl
@[simp] theorem emptyStaged_fill : (emptyStaged s).fill = s.fill := rfl
@[simp] theorem emptyStaged_follow : (emptyStaged s).follow = s.follow := rfl
@[simp] theorem emptyStaged_readyLine : (emptyStaged s).readyLine = s.readyLine := rfl
@[simp] theorem emptyStaged_tracker : (emptyStaged s).tracker = s.tracker := rfl
@[simp] theorem emptyStaged_locks : (emptyStaged s).locks = s.locks := rfl
@[simp] theorem emptyStaged_policy : (emptyStaged s).policy = s.policy := rfl
@[simp] theorem emptyStaged_controller : (emptyStaged s).controller = s.controller := rfl
@[simp] theorem emptyStaged_host : (emptyStaged s).host = s.host := rfl
@[simp] theorem emptyStaged_bus : (emptyStaged s).bus = s.bus := rfl
@[simp] theorem emptyStaged_hostPath : (emptyStaged s).hostPath = s.hostPath := rfl
@[simp] theorem emptyStaged_service : (emptyStaged s).service = s.service := rfl
@[simp] theorem emptyStaged_notices : (emptyStaged s).notices = s.notices := rfl
@[simp] theorem emptyStaged_loader : (emptyStaged s).loader = s.loader := rfl
@[simp] theorem emptyStaged_link : (emptyStaged s).link = s.link := rfl
@[simp] theorem emptyStaged_pending : (emptyStaged s).pending = s.pending := rfl

/-! ### modTracker -/

@[simp] theorem modTracker_tracker (d : Dev) (f : Tracker → Tracker) : (modTracker d f s).tracker = s.tracker.set d (f (s.tracker.get d)) := rfl
@[simp] theorem modTracker_clock (d : Dev) (f : Tracker → Tracker) : (modTracker d f s).clock = s.clock := rfl
@[simp] theorem modTracker_straps (d : Dev) (f : Tracker → Tracker) : (modTracker d f s).straps = s.straps := rfl
@[simp] theorem modTracker_active (d : Dev) (f : Tracker → Tracker) : (modTracker d f s).active = s.active := rfl
@[simp] theorem modTracker_staged (d : Dev) (f : Tracker → Tracker) : (modTracker d f s).staged = s.staged := rfl
@[simp] theorem modTracker_generation (d : Dev) (f : Tracker → Tracker) : (modTracker d f s).generation = s.generation := rfl
@[simp] theorem modTracker_commit (d : Dev) (f : Tracker → Tracker) : (modTracker d f s).commit = s.commit := rfl
@[simp] theorem modTracker_store (d : Dev) (f : Tracker → Tracker) : (modTracker d f s).store = s.store := rfl
@[simp] theorem modTracker_ptr (d : Dev) (f : Tracker → Tracker) : (modTracker d f s).ptr = s.ptr := rfl
@[simp] theorem modTracker_fill (d : Dev) (f : Tracker → Tracker) : (modTracker d f s).fill = s.fill := rfl
@[simp] theorem modTracker_follow (d : Dev) (f : Tracker → Tracker) : (modTracker d f s).follow = s.follow := rfl
@[simp] theorem modTracker_readyLine (d : Dev) (f : Tracker → Tracker) : (modTracker d f s).readyLine = s.readyLine := rfl
@[simp] theorem modTracker_locks (d : Dev) (f : Tracker → Tracker) : (modTracker d f s).locks = s.locks := rfl
@[simp] theorem modTracker_policy (d : Dev) (f : Tracker → Tracker) : (modTracker d f s).policy = s.policy := rfl
@[simp] theorem modTracker_controller (d : Dev) (f : Tracker → Tracker) : (modTracker d f s).controller = s.controller := rfl
@[simp] theorem modTracker_host (d : Dev) (f : Tracker → Tracker) : (modTracker d f s).host = s.host := rfl
@[simp] theorem modTracker_bus (d : Dev) (f : Tracker → Tracker) : (modTracker d f s).bus = s.bus := rfl
@[simp] theorem modTracker_hostPath (d : Dev) (f : Tracker → Tracker) : (modTracker d f s).hostPath = s.hostPath := rfl
@[simp] theorem modTracker_service (d : Dev) (f : Tracker → Tracker) : (modTracker d f s).service = s.service := rfl
@[simp] theorem modTracker_notices (d : Dev) (f : Tracker → Tracker) : (modTracker d f s).notices = s.notices := rfl
@[simp] theorem modTracker_loader (d : Dev) (f : Tracker → Tracker) : (modTracker d f s).loader = s.loader := rfl
@[simp] theorem modTracker_link (d : Dev) (f : Tracker → Tracker) : (modTracker d f s).link = s.link := rfl
@[simp] theorem modTracker_pending (d : Dev) (f : Tracker → Tracker) : (modTracker d f s).pending = s.pending := rfl

/-! ### setRecord -/

@[simp] theorem setRecord_tracker (d : Dev) (r : Record) : (setRecord d r s).tracker = s.tracker.set d { s.tracker.get d with record := r } := rfl
@[simp] theorem setRecord_clock (d : Dev) (r : Record) : (setRecord d r s).clock = s.clock := rfl
@[simp] theorem setRecord_straps (d : Dev) (r : Record) : (setRecord d r s).straps = s.straps := rfl
@[simp] theorem setRecord_active (d : Dev) (r : Record) : (setRecord d r s).active = s.active := rfl
@[simp] theorem setRecord_staged (d : Dev) (r : Record) : (setRecord d r s).staged = s.staged := rfl
@[simp] theorem setRecord_generation (d : Dev) (r : Record) : (setRecord d r s).generation = s.generation := rfl
@[simp] theorem setRecord_commit (d : Dev) (r : Record) : (setRecord d r s).commit = s.commit := rfl
@[simp] theorem setRecord_store (d : Dev) (r : Record) : (setRecord d r s).store = s.store := rfl
@[simp] theorem setRecord_ptr (d : Dev) (r : Record) : (setRecord d r s).ptr = s.ptr := rfl
@[simp] theorem setRecord_fill (d : Dev) (r : Record) : (setRecord d r s).fill = s.fill := rfl
@[simp] theorem setRecord_follow (d : Dev) (r : Record) : (setRecord d r s).follow = s.follow := rfl
@[simp] theorem setRecord_readyLine (d : Dev) (r : Record) : (setRecord d r s).readyLine = s.readyLine := rfl
@[simp] theorem setRecord_locks (d : Dev) (r : Record) : (setRecord d r s).locks = s.locks := rfl
@[simp] theorem setRecord_policy (d : Dev) (r : Record) : (setRecord d r s).policy = s.policy := rfl
@[simp] theorem setRecord_controller (d : Dev) (r : Record) : (setRecord d r s).controller = s.controller := rfl
@[simp] theorem setRecord_host (d : Dev) (r : Record) : (setRecord d r s).host = s.host := rfl
@[simp] theorem setRecord_bus (d : Dev) (r : Record) : (setRecord d r s).bus = s.bus := rfl
@[simp] theorem setRecord_hostPath (d : Dev) (r : Record) : (setRecord d r s).hostPath = s.hostPath := rfl
@[simp] theorem setRecord_service (d : Dev) (r : Record) : (setRecord d r s).service = s.service := rfl
@[simp] theorem setRecord_notices (d : Dev) (r : Record) : (setRecord d r s).notices = s.notices := rfl
@[simp] theorem setRecord_loader (d : Dev) (r : Record) : (setRecord d r s).loader = s.loader := rfl
@[simp] theorem setRecord_link (d : Dev) (r : Record) : (setRecord d r s).link = s.link := rfl
@[simp] theorem setRecord_pending (d : Dev) (r : Record) : (setRecord d r s).pending = s.pending := rfl

/-! ### modController -/

@[simp] theorem modController_controller (d : Dev) (f : Controller → Controller) : (modController d f s).controller = s.controller.set d (f (s.controller.get d)) := rfl
@[simp] theorem modController_clock (d : Dev) (f : Controller → Controller) : (modController d f s).clock = s.clock := rfl
@[simp] theorem modController_straps (d : Dev) (f : Controller → Controller) : (modController d f s).straps = s.straps := rfl
@[simp] theorem modController_active (d : Dev) (f : Controller → Controller) : (modController d f s).active = s.active := rfl
@[simp] theorem modController_staged (d : Dev) (f : Controller → Controller) : (modController d f s).staged = s.staged := rfl
@[simp] theorem modController_generation (d : Dev) (f : Controller → Controller) : (modController d f s).generation = s.generation := rfl
@[simp] theorem modController_commit (d : Dev) (f : Controller → Controller) : (modController d f s).commit = s.commit := rfl
@[simp] theorem modController_store (d : Dev) (f : Controller → Controller) : (modController d f s).store = s.store := rfl
@[simp] theorem modController_ptr (d : Dev) (f : Controller → Controller) : (modController d f s).ptr = s.ptr := rfl
@[simp] theorem modController_fill (d : Dev) (f : Controller → Controller) : (modController d f s).fill = s.fill := rfl
@[simp] theorem modController_follow (d : Dev) (f : Controller → Controller) : (modController d f s).follow = s.follow := rfl
@[simp] theorem modController_readyLine (d : Dev) (f : Controller → Controller) : (modController d f s).readyLine = s.readyLine := rfl
@[simp] theorem modController_tracker (d : Dev) (f : Controller → Controller) : (modController d f s).tracker = s.tracker := rfl
@[simp] theorem modController_locks (d : Dev) (f : Controller → Controller) : (modController d f s).locks = s.locks := rfl
@[simp] theorem modController_policy (d : Dev) (f : Controller → Controller) : (modController d f s).policy = s.policy := rfl
@[simp] theorem modController_host (d : Dev) (f : Controller → Controller) : (modController d f s).host = s.host := rfl
@[simp] theorem modController_bus (d : Dev) (f : Controller → Controller) : (modController d f s).bus = s.bus := rfl
@[simp] theorem modController_hostPath (d : Dev) (f : Controller → Controller) : (modController d f s).hostPath = s.hostPath := rfl
@[simp] theorem modController_service (d : Dev) (f : Controller → Controller) : (modController d f s).service = s.service := rfl
@[simp] theorem modController_notices (d : Dev) (f : Controller → Controller) : (modController d f s).notices = s.notices := rfl
@[simp] theorem modController_loader (d : Dev) (f : Controller → Controller) : (modController d f s).loader = s.loader := rfl
@[simp] theorem modController_link (d : Dev) (f : Controller → Controller) : (modController d f s).link = s.link := rfl
@[simp] theorem modController_pending (d : Dev) (f : Controller → Controller) : (modController d f s).pending = s.pending := rfl

/-! ### raiseService -/

@[simp] theorem raiseService_service (d : Dev) (w : ServiceWork) (a : Nat) : (raiseService d w a s).service = s.service.set d (some { work := w, addr := a, behind := hostWaiting s d }) := rfl
@[simp] theorem raiseService_clock (d : Dev) (w : ServiceWork) (a : Nat) : (raiseService d w a s).clock = s.clock := rfl
@[simp] theorem raiseService_straps (d : Dev) (w : ServiceWork) (a : Nat) : (raiseService d w a s).straps = s.straps := rfl
@[simp] theorem raiseService_active (d : Dev) (w : ServiceWork) (a : Nat) : (raiseService d w a s).active = s.active := rfl
@[simp] theorem raiseService_staged (d : Dev) (w : ServiceWork) (a : Nat) : (raiseService d w a s).staged = s.staged := rfl
@[simp] theorem raiseService_generation (d : Dev) (w : ServiceWork) (a : Nat) : (raiseService d w a s).generation = s.generation := rfl
@[simp] theorem raiseService_commit (d : Dev) (w : ServiceWork) (a : Nat) : (raiseService d w a s).commit = s.commit := rfl
@[simp] theorem raiseService_store (d : Dev) (w : ServiceWork) (a : Nat) : (raiseService d w a s).store = s.store := rfl
@[simp] theorem raiseService_ptr (d : Dev) (w : ServiceWork) (a : Nat) : (raiseService d w a s).ptr = s.ptr := rfl
@[simp] theorem raiseService_fill (d : Dev) (w : ServiceWork) (a : Nat) : (raiseService d w a s).fill = s.fill := rfl
@[simp] theorem raiseService_follow (d : Dev) (w : ServiceWork) (a : Nat) : (raiseService d w a s).follow = s.follow := rfl
@[simp] theorem raiseService_readyLine (d : Dev) (w : ServiceWork) (a : Nat) : (raiseService d w a s).readyLine = s.readyLine := rfl
@[simp] theorem raiseService_tracker (d : Dev) (w : ServiceWork) (a : Nat) : (raiseService d w a s).tracker = s.tracker := rfl
@[simp] theorem raiseService_locks (d : Dev) (w : ServiceWork) (a : Nat) : (raiseService d w a s).locks = s.locks := rfl
@[simp] theorem raiseService_policy (d : Dev) (w : ServiceWork) (a : Nat) : (raiseService d w a s).policy = s.policy := rfl
@[simp] theorem raiseService_controller (d : Dev) (w : ServiceWork) (a : Nat) : (raiseService d w a s).controller = s.controller := rfl
@[simp] theorem raiseService_host (d : Dev) (w : ServiceWork) (a : Nat) : (raiseService d w a s).host = s.host := rfl
@[simp] theorem raiseService_bus (d : Dev) (w : ServiceWork) (a : Nat) : (raiseService d w a s).bus = s.bus := rfl
@[simp] theorem raiseService_hostPath (d : Dev) (w : ServiceWork) (a : Nat) : (raiseService d w a s).hostPath = s.hostPath := rfl
@[simp] theorem raiseService_notices (d : Dev) (w : ServiceWork) (a : Nat) : (raiseService d w a s).notices = s.notices := rfl
@[simp] theorem raiseService_loader (d : Dev) (w : ServiceWork) (a : Nat) : (raiseService d w a s).loader = s.loader := rfl
@[simp] theorem raiseService_link (d : Dev) (w : ServiceWork) (a : Nat) : (raiseService d w a s).link = s.link := rfl
@[simp] theorem raiseService_pending (d : Dev) (w : ServiceWork) (a : Nat) : (raiseService d w a s).pending = s.pending := rfl

/-! ### clearService -/

@[simp] theorem clearService_service (d : Dev) : (clearService d s).service = s.service.set d none := rfl
@[simp] theorem clearService_clock (d : Dev) : (clearService d s).clock = s.clock := rfl
@[simp] theorem clearService_straps (d : Dev) : (clearService d s).straps = s.straps := rfl
@[simp] theorem clearService_active (d : Dev) : (clearService d s).active = s.active := rfl
@[simp] theorem clearService_staged (d : Dev) : (clearService d s).staged = s.staged := rfl
@[simp] theorem clearService_generation (d : Dev) : (clearService d s).generation = s.generation := rfl
@[simp] theorem clearService_commit (d : Dev) : (clearService d s).commit = s.commit := rfl
@[simp] theorem clearService_store (d : Dev) : (clearService d s).store = s.store := rfl
@[simp] theorem clearService_ptr (d : Dev) : (clearService d s).ptr = s.ptr := rfl
@[simp] theorem clearService_fill (d : Dev) : (clearService d s).fill = s.fill := rfl
@[simp] theorem clearService_follow (d : Dev) : (clearService d s).follow = s.follow := rfl
@[simp] theorem clearService_readyLine (d : Dev) : (clearService d s).readyLine = s.readyLine := rfl
@[simp] theorem clearService_tracker (d : Dev) : (clearService d s).tracker = s.tracker := rfl
@[simp] theorem clearService_locks (d : Dev) : (clearService d s).locks = s.locks := rfl
@[simp] theorem clearService_policy (d : Dev) : (clearService d s).policy = s.policy := rfl
@[simp] theorem clearService_controller (d : Dev) : (clearService d s).controller = s.controller := rfl
@[simp] theorem clearService_host (d : Dev) : (clearService d s).host = s.host := rfl
@[simp] theorem clearService_bus (d : Dev) : (clearService d s).bus = s.bus := rfl
@[simp] theorem clearService_hostPath (d : Dev) : (clearService d s).hostPath = s.hostPath := rfl
@[simp] theorem clearService_notices (d : Dev) : (clearService d s).notices = s.notices := rfl
@[simp] theorem clearService_loader (d : Dev) : (clearService d s).loader = s.loader := rfl
@[simp] theorem clearService_link (d : Dev) : (clearService d s).link = s.link := rfl
@[simp] theorem clearService_pending (d : Dev) : (clearService d s).pending = s.pending := rfl

/-! ### raiseHost -/

@[simp] theorem raiseHost_hostPath (x : HostTxn) : (raiseHost x s).hostPath = s.hostPath ++ [x] := rfl
@[simp] theorem raiseHost_clock (x : HostTxn) : (raiseHost x s).clock = s.clock := rfl
@[simp] theorem raiseHost_straps (x : HostTxn) : (raiseHost x s).straps = s.straps := rfl
@[simp] theorem raiseHost_active (x : HostTxn) : (raiseHost x s).active = s.active := rfl
@[simp] theorem raiseHost_staged (x : HostTxn) : (raiseHost x s).staged = s.staged := rfl
@[simp] theorem raiseHost_generation (x : HostTxn) : (raiseHost x s).generation = s.generation := rfl
@[simp] theorem raiseHost_commit (x : HostTxn) : (raiseHost x s).commit = s.commit := rfl
@[simp] theorem raiseHost_store (x : HostTxn) : (raiseHost x s).store = s.store := rfl
@[simp] theorem raiseHost_ptr (x : HostTxn) : (raiseHost x s).ptr = s.ptr := rfl
@[simp] theorem raiseHost_fill (x : HostTxn) : (raiseHost x s).fill = s.fill := rfl
@[simp] theorem raiseHost_follow (x : HostTxn) : (raiseHost x s).follow = s.follow := rfl
@[simp] theorem raiseHost_readyLine (x : HostTxn) : (raiseHost x s).readyLine = s.readyLine := rfl
@[simp] theorem raiseHost_tracker (x : HostTxn) : (raiseHost x s).tracker = s.tracker := rfl
@[simp] theorem raiseHost_locks (x : HostTxn) : (raiseHost x s).locks = s.locks := rfl
@[simp] theorem raiseHost_policy (x : HostTxn) : (raiseHost x s).policy = s.policy := rfl
@[simp] theorem raiseHost_controller (x : HostTxn) : (raiseHost x s).controller = s.controller := rfl
@[simp] theorem raiseHost_host (x : HostTxn) : (raiseHost x s).host = s.host := rfl
@[simp] theorem raiseHost_bus (x : HostTxn) : (raiseHost x s).bus = s.bus := rfl
@[simp] theorem raiseHost_service (x : HostTxn) : (raiseHost x s).service = s.service := rfl
@[simp] theorem raiseHost_notices (x : HostTxn) : (raiseHost x s).notices = s.notices := rfl
@[simp] theorem raiseHost_loader (x : HostTxn) : (raiseHost x s).loader = s.loader := rfl
@[simp] theorem raiseHost_link (x : HostTxn) : (raiseHost x s).link = s.link := rfl
@[simp] theorem raiseHost_pending (x : HostTxn) : (raiseHost x s).pending = s.pending := rfl

/-! ### setTransaction -/

@[simp] theorem setTransaction_host (x : Transaction) : (setTransaction x s).host = { s.host with transaction := x } := rfl
@[simp] theorem setTransaction_clock (x : Transaction) : (setTransaction x s).clock = s.clock := rfl
@[simp] theorem setTransaction_straps (x : Transaction) : (setTransaction x s).straps = s.straps := rfl
@[simp] theorem setTransaction_active (x : Transaction) : (setTransaction x s).active = s.active := rfl
@[simp] theorem setTransaction_staged (x : Transaction) : (setTransaction x s).staged = s.staged := rfl
@[simp] theorem setTransaction_generation (x : Transaction) : (setTransaction x s).generation = s.generation := rfl
@[simp] theorem setTransaction_commit (x : Transaction) : (setTransaction x s).commit = s.commit := rfl
@[simp] theorem setTransaction_store (x : Transaction) : (setTransaction x s).store = s.store := rfl
@[simp] theorem setTransaction_ptr (x : Transaction) : (setTransaction x s).ptr = s.ptr := rfl
@[simp] theorem setTransaction_fill (x : Transaction) : (setTransaction x s).fill = s.fill := rfl
@[simp] theorem setTransaction_follow (x : Transaction) : (setTransaction x s).follow = s.follow := rfl
@[simp] theorem setTransaction_readyLine (x : Transaction) : (setTransaction x s).readyLine = s.readyLine := rfl
@[simp] theorem setTransaction_tracker (x : Transaction) : (setTransaction x s).tracker = s.tracker := rfl
@[simp] theorem setTransaction_locks (x : Transaction) : (setTransaction x s).locks = s.locks := rfl
@[simp] theorem setTransaction_policy (x : Transaction) : (setTransaction x s).policy = s.policy := rfl
@[simp] theorem setTransaction_controller (x : Transaction) : (setTransaction x s).controller = s.controller := rfl
@[simp] theorem setTransaction_bus (x : Transaction) : (setTransaction x s).bus = s.bus := rfl
@[simp] theorem setTransaction_hostPath (x : Transaction) : (setTransaction x s).hostPath = s.hostPath := rfl
@[simp] theorem setTransaction_service (x : Transaction) : (setTransaction x s).service = s.service := rfl
@[simp] theorem setTransaction_notices (x : Transaction) : (setTransaction x s).notices = s.notices := rfl
@[simp] theorem setTransaction_loader (x : Transaction) : (setTransaction x s).loader = s.loader := rfl
@[simp] theorem setTransaction_link (x : Transaction) : (setTransaction x s).link = s.link := rfl
@[simp] theorem setTransaction_pending (x : Transaction) : (setTransaction x s).pending = s.pending := rfl

/-! ### setLoader -/

@[simp] theorem setLoader_loader (l : LoaderState) : (setLoader l s).loader = { s.loader with state := l } := rfl
@[simp] theorem setLoader_clock (l : LoaderState) : (setLoader l s).clock = s.clock := rfl
@[simp] theorem setLoader_straps (l : LoaderState) : (setLoader l s).straps = s.straps := rfl
@[simp] theorem setLoader_active (l : LoaderState) : (setLoader l s).active = s.active := rfl
@[simp] theorem setLoader_staged (l : LoaderState) : (setLoader l s).staged = s.staged := rfl
@[simp] theorem setLoader_generation (l : LoaderState) : (setLoader l s).generation = s.generation := rfl
@[simp] theorem setLoader_commit (l : LoaderState) : (setLoader l s).commit = s.commit := rfl
@[simp] theorem setLoader_store (l : LoaderState) : (setLoader l s).store = s.store := rfl
@[simp] theorem setLoader_ptr (l : LoaderState) : (setLoader l s).ptr = s.ptr := rfl
@[simp] theorem setLoader_fill (l : LoaderState) : (setLoader l s).fill = s.fill := rfl
@[simp] theorem setLoader_follow (l : LoaderState) : (setLoader l s).follow = s.follow := rfl
@[simp] theorem setLoader_readyLine (l : LoaderState) : (setLoader l s).readyLine = s.readyLine := rfl
@[simp] theorem setLoader_tracker (l : LoaderState) : (setLoader l s).tracker = s.tracker := rfl
@[simp] theorem setLoader_locks (l : LoaderState) : (setLoader l s).locks = s.locks := rfl
@[simp] theorem setLoader_policy (l : LoaderState) : (setLoader l s).policy = s.policy := rfl
@[simp] theorem setLoader_controller (l : LoaderState) : (setLoader l s).controller = s.controller := rfl
@[simp] theorem setLoader_host (l : LoaderState) : (setLoader l s).host = s.host := rfl
@[simp] theorem setLoader_bus (l : LoaderState) : (setLoader l s).bus = s.bus := rfl
@[simp] theorem setLoader_hostPath (l : LoaderState) : (setLoader l s).hostPath = s.hostPath := rfl
@[simp] theorem setLoader_service (l : LoaderState) : (setLoader l s).service = s.service := rfl
@[simp] theorem setLoader_notices (l : LoaderState) : (setLoader l s).notices = s.notices := rfl
@[simp] theorem setLoader_link (l : LoaderState) : (setLoader l s).link = s.link := rfl
@[simp] theorem setLoader_pending (l : LoaderState) : (setLoader l s).pending = s.pending := rfl

/-! ### placeResponse -/

@[simp] theorem placeResponse_link (r : Response) : (placeResponse r s).link = { s.link with slot := some { response := r, position := 0 } } := rfl
@[simp] theorem placeResponse_clock (r : Response) : (placeResponse r s).clock = s.clock := rfl
@[simp] theorem placeResponse_straps (r : Response) : (placeResponse r s).straps = s.straps := rfl
@[simp] theorem placeResponse_active (r : Response) : (placeResponse r s).active = s.active := rfl
@[simp] theorem placeResponse_staged (r : Response) : (placeResponse r s).staged = s.staged := rfl
@[simp] theorem placeResponse_generation (r : Response) : (placeResponse r s).generation = s.generation := rfl
@[simp] theorem placeResponse_commit (r : Response) : (placeResponse r s).commit = s.commit := rfl
@[simp] theorem placeResponse_store (r : Response) : (placeResponse r s).store = s.store := rfl
@[simp] theorem placeResponse_ptr (r : Response) : (placeResponse r s).ptr = s.ptr := rfl
@[simp] theorem placeResponse_fill (r : Response) : (placeResponse r s).fill = s.fill := rfl
@[simp] theorem placeResponse_follow (r : Response) : (placeResponse r s).follow = s.follow := rfl
@[simp] theorem placeResponse_readyLine (r : Response) : (placeResponse r s).readyLine = s.readyLine := rfl
@[simp] theorem placeResponse_tracker (r : Response) : (placeResponse r s).tracker = s.tracker := rfl
@[simp] theorem placeResponse_locks (r : Response) : (placeResponse r s).locks = s.locks := rfl
@[simp] theorem placeResponse_policy (r : Response) : (placeResponse r s).policy = s.policy := rfl
@[simp] theorem placeResponse_controller (r : Response) : (placeResponse r s).controller = s.controller := rfl
@[simp] theorem placeResponse_host (r : Response) : (placeResponse r s).host = s.host := rfl
@[simp] theorem placeResponse_bus (r : Response) : (placeResponse r s).bus = s.bus := rfl
@[simp] theorem placeResponse_hostPath (r : Response) : (placeResponse r s).hostPath = s.hostPath := rfl
@[simp] theorem placeResponse_service (r : Response) : (placeResponse r s).service = s.service := rfl
@[simp] theorem placeResponse_notices (r : Response) : (placeResponse r s).notices = s.notices := rfl
@[simp] theorem placeResponse_loader (r : Response) : (placeResponse r s).loader = s.loader := rfl
@[simp] theorem placeResponse_pending (r : Response) : (placeResponse r s).pending = s.pending := rfl

end Sys2Proof.Machine
end

