-- ==== Sys2Proof/Laws/Notices.lean ====
section
/-! SUPPORT. The notice unit: what a posting can do, and the relation between a unit and itself some postings later. -/

namespace Sys2Proof.Machine

/-- R156: the record a posting makes. -/
def NoticeUnit.recordOf (n : NoticeUnit) (time : BitVec 32) (p : Posting) : Notice :=
  { sequence := n.next, kind := p.kind, device := p.device, time := time, address := p.address, entry := p.entry,
    detail := p.detail }

/-- R156, R157, R159: a posting is queued with the next sequence, counted as an overflow, or dropped as not enabled; its
tally counts it in each case. -/
theorem noticeUnit_post_cases (n : NoticeUnit) (time : BitVec 32) (p : Posting) :
    ∃ q next overflow, n.post time p =
        { queue := q, next := next, enabled := n.enabled,
          tally := n.tally.setIfInBounds p.kind.code (satInc 255 ((n.tally[p.kind.code]?).getD 0)), overflow := overflow }
      ∧ ((q = n.queue ++ [n.recordOf time p] ∧ n.queue.length < Config.queueLimit ∧ next = n.next + 1
            ∧ overflow = n.overflow)
        ∨ (q = n.queue ∧ next = n.next ∧ (overflow = n.overflow ∨ overflow = satInc 255 n.overflow))) := by
  simp only [NoticeUnit.post]
  split
  · exact ⟨_, _, _, rfl, .inr ⟨rfl, rfl, .inl rfl⟩⟩
  · split
    · exact ⟨_, _, _, rfl, .inl ⟨rfl, ‹_›, rfl, rfl⟩⟩
    · exact ⟨_, _, _, rfl, .inr ⟨rfl, rfl, .inr rfl⟩⟩

theorem noticeUnit_post_enabled (n : NoticeUnit) (time : BitVec 32) (p : Posting) :
    (n.post time p).enabled = n.enabled := by
  obtain ⟨_, _, _, h, _⟩ := noticeUnit_post_cases n time p
  rw [h]

theorem satInc_le {cap n : Nat} (h : n ≤ cap) : satInc cap n ≤ cap := by
  simp only [satInc]
  split <;> omega

/-- `m` is `n` after some postings. -/
inductive Posted : NoticeUnit → NoticeUnit → Prop where
  | refl (n : NoticeUnit) : Posted n n
  | post {n m : NoticeUnit} (h : Posted n m) (time : BitVec 32) (p : Posting) : Posted n (m.post time p)

theorem Posted.trans {n m k : NoticeUnit} (h : Posted n m) (g : Posted m k) : Posted n k := by
  induction g with
  | refl => exact h
  | post _ time p ih => exact .post ih time p

/-- Postings leave the enable set as it was. -/
theorem posted_enabled {n m : NoticeUnit} (h : Posted n m) : m.enabled = n.enabled := by
  induction h with
  | refl => rfl
  | post _ time p ih => rw [noticeUnit_post_enabled, ih]

/-- A property that one posting keeps, some postings keep. -/
theorem posted_keeps {P : NoticeUnit → Prop} (keep : ∀ n time p, P n → P (n.post time p)) {n m : NoticeUnit}
    (h : Posted n m) (hn : P n) : P m := by
  induction h with
  | refl => exact hn
  | post _ time p ih => exact keep _ time p ih

theorem posted_post (p : Posting) (s : State) : Posted s.notices (post p s).notices := .post (.refl _) _ _

end Sys2Proof.Machine
end

