-- ==== Sys2Proof/Laws/Faces.lean ====
section
/-! SUPPORT. What the busy service's and the tracker's shared operations leave as it was: they move the host face, the
records, the memory face requests and the controllers, and post notices, and nothing else. -/

namespace Sys2Proof.Machine

/-- `t` differs from `s` at most in the host face, the tracker, the controllers, the host path, the service requests and
by postings. -/
structure FaceFrame (s t : State) : Prop where
  clock : t.clock = s.clock
  straps : t.straps = s.straps
  active : t.active = s.active
  staged : t.staged = s.staged
  generation : t.generation = s.generation
  commit : t.commit = s.commit
  store : t.store = s.store
  ptr : t.ptr = s.ptr
  fill : t.fill = s.fill
  follow : t.follow = s.follow
  readyLine : t.readyLine = s.readyLine
  locks : t.locks = s.locks
  policy : t.policy = s.policy
  bus : t.bus = s.bus
  loader : t.loader = s.loader
  link : t.link = s.link
  pending : t.pending = s.pending
  loadHold : t.host.loadHold = s.host.loadHold
  resetAsserted : t.host.resetAsserted = s.host.resetAsserted
  dropped : t.host.dropped = s.host.dropped
  notices : Posted s.notices t.notices

theorem FaceFrame.refl (s : State) : FaceFrame s s := by
  constructor <;> first | rfl | exact .refl _

theorem FaceFrame.trans {s t u : State} (h : FaceFrame s t) (g : FaceFrame t u) : FaceFrame s u where
  clock := g.clock.trans h.clock
  straps := g.straps.trans h.straps
  active := g.active.trans h.active
  staged := g.staged.trans h.staged
  generation := g.generation.trans h.generation
  commit := g.commit.trans h.commit
  store := g.store.trans h.store
  ptr := g.ptr.trans h.ptr
  fill := g.fill.trans h.fill
  follow := g.follow.trans h.follow
  readyLine := g.readyLine.trans h.readyLine
  locks := g.locks.trans h.locks
  policy := g.policy.trans h.policy
  bus := g.bus.trans h.bus
  loader := g.loader.trans h.loader
  link := g.link.trans h.link
  pending := g.pending.trans h.pending
  loadHold := g.loadHold.trans h.loadHold
  resetAsserted := g.resetAsserted.trans h.resetAsserted
  dropped := g.dropped.trans h.dropped
  notices := h.notices.trans g.notices

variable (s : State) (d : Dev)

/-! ### The updates -/

theorem post_frame (p : Posting) : FaceFrame s (post p s) := by
  constructor <;> first | rfl | exact posted_post p s

theorem modTracker_frame (f : Tracker → Tracker) : FaceFrame s (modTracker d f s) := by
  constructor <;> first | rfl | exact .refl _

theorem setRecord_frame (r : Record) : FaceFrame s (setRecord d r s) := modTracker_frame s d _

theorem modController_frame (f : Controller → Controller) : FaceFrame s (modController d f s) := by
  constructor <;> first | rfl | exact .refl _

theorem raiseService_frame (w : ServiceWork) (a : Nat) : FaceFrame s (raiseService d w a s) := by
  constructor <;> first | rfl | exact .refl _

theorem clearService_frame : FaceFrame s (clearService d s) := by
  constructor <;> first | rfl | exact .refl _

theorem raiseHost_frame (x : HostTxn) : FaceFrame s (raiseHost x s) := by
  constructor <;> first | rfl | exact .refl _

theorem setTransaction_frame (x : Transaction) : FaceFrame s (setTransaction x s) := by
  constructor <;> first | rfl | exact .refl _

/-! ### The suspend controller and the miss decision -/

/-- R120, R151: the request is taken back when it is a SUSPEND, and otherwise nothing is done. -/
theorem withdrawSuspend_cases :
    (∃ a n, s.service.get d = some ⟨.suspend, a, n⟩ ∧ withdrawSuspend d s = clearService d s)
    ∨ withdrawSuspend d s = s := by
  simp only [withdrawSuspend]
  split
  · exact .inl ⟨_, _, ‹_›, rfl⟩
  · exact .inr rfl

/-- R126, R151: the request is taken back when it is a RESUME of the timers, and otherwise nothing is done. -/
theorem withdrawResume_cases :
    (∃ a n, s.service.get d = some ⟨.resume .timers, a, n⟩ ∧ withdrawResume d s = clearService d s)
    ∨ withdrawResume d s = s := by
  simp only [withdrawResume]
  split
  · exact .inl ⟨_, _, ‹_›, rfl⟩
  · exact .inr rfl

theorem withdrawSuspend_frame : FaceFrame s (withdrawSuspend d s) := by
  rcases withdrawSuspend_cases s d with ⟨_, _, _, h⟩ | h <;> rw [h]
  · exact clearService_frame s d
  · exact .refl s

theorem withdrawResume_frame : FaceFrame s (withdrawResume d s) := by
  rcases withdrawResume_cases s d with ⟨_, _, _, h⟩ | h <;> rw [h]
  · exact clearService_frame s d
  · exact .refl s

theorem yieldResume_frame : FaceFrame s (yieldResume d s) := by
  simp only [yieldResume]
  split
  · exact .refl s
  · exact (withdrawResume_frame s d).trans (modController_frame _ _ _)

theorem forwardRead_frame (r : ReadRecord) : FaceFrame s (forwardRead r s) := by
  simp only [forwardRead]
  refine FaceFrame.trans ?_ (raiseHost_frame _ _)
  refine FaceFrame.trans ?_ (setTransaction_frame _ _)
  split
  · exact .refl s
  · exact yieldResume_frame s _

theorem stallRead_frame (since : Nat) (why : StallWhy) (r : ReadRecord) : FaceFrame s (stallRead since why r s) :=
  setTransaction_frame s _

theorem fallToPolicy_frame (since : Nat) (r : ReadRecord) : FaceFrame s (fallToPolicy since r s) := by
  simp only [fallToPolicy]
  split
  · exact stallRead_frame s _ _ _
  · exact forwardRead_frame s r

theorem reportBudget_frame (r : ReadRecord) (e : EraseFields) : FaceFrame s (reportBudget r e s) := by
  simp only [reportBudget]
  split
  · exact (post_frame s _).trans (modController_frame _ _ _)
  · exact .refl s

theorem decideErase_frame (since : Nat) (r : ReadRecord) (sector : Nat) (e : Option EraseFields) :
    FaceFrame s (decideErase since r sector e s) := by
  simp only [decideErase]
  split
  · exact fallToPolicy_frame s _ _
  · split
    · split
      · exact (stallRead_frame s _ _ _).trans (raiseService_frame _ _ _ _)
      · exact stallRead_frame s _ _ _
    · exact (reportBudget_frame s _ _).trans (fallToPolicy_frame _ _ _)

theorem missDecision_frame (since : Nat) (r : ReadRecord) : FaceFrame s (missDecision since r s) := by
  simp only [missDecision]
  split
  · exact fallToPolicy_frame s _ _
  · exact stallRead_frame s _ _ _
  · split
    · exact setTransaction_frame s _
    · exact fallToPolicy_frame s _ _
  · split
    · exact setTransaction_frame s _
    · exact decideErase_frame s _ _ _ _
  · exact stallRead_frame s _ _ _
  all_goals exact forwardRead_frame s r

theorem resolveStalled_frame : FaceFrame s (resolveStalled d s) := by
  simp only [resolveStalled]
  split
  · split
    · split
      · exact missDecision_frame s _ _
      · exact .refl s
    · exact .refl s
  · exact .refl s

theorem stopResumeTimers_frame : FaceFrame s (stopResumeTimers d s) := modController_frame s d _

theorem disarm_frame : FaceFrame s (disarm d s) := modTracker_frame s d _

/-! ### The tracker -/

theorem postSequenceRefused_frame (addr : Nat) (word : Word) : FaceFrame s (postSequenceRefused d addr word s) :=
  post_frame s _

theorem hostOwns_frame : FaceFrame s (hostOwns d s) := (withdrawResume_frame s d).trans (stopResumeTimers_frame _ d)

theorem applyAction_frame (addr : Nat) (word : Word) (a : WriteAction) : FaceFrame s (applyAction d addr word a s) := by
  cases a with
  | silent => exact .refl s
  | refuse => exact postSequenceRefused_frame s d _ _
  | hold next leaveStatus =>
    simp only [applyAction]
    split
    · exact (setRecord_frame s d _).trans (raiseHost_frame _ _)
    · exact setRecord_frame s d _
  | forward next => exact (setRecord_frame s d _).trans (raiseHost_frame _ _)
  | suspendForward next =>
    exact ((withdrawSuspend_frame s d).trans (setRecord_frame _ d _)).trans (raiseHost_frame _ _)
  | resumeForward next =>
    exact (((hostOwns_frame s d).trans (setRecord_frame _ d _)).trans (disarm_frame _ d)).trans (raiseHost_frame _ _)
  | pair heldAddr heldWord next =>
    exact ((setRecord_frame s d _).trans (disarm_frame _ d)).trans (raiseHost_frame _ _)
  | guardRefused operation sector => exact (setRecord_frame s d _).trans (post_frame _ _)
  | become next =>
    simp only [applyAction]
    split
    · exact (hostOwns_frame s d).trans (setRecord_frame _ d _)
    · exact setRecord_frame s d _

theorem breakHeld_frame (addr : Nat) (word : Word) : FaceFrame s (breakHeld d addr word s) := by
  simp only [breakHeld]
  split
  · exact (postSequenceRefused_frame s d _ _).trans (setRecord_frame _ d _)
  · exact .refl s

theorem takeWrite_frame (addr : Nat) (word : Word) : FaceFrame s (takeWrite d addr word s) :=
  (breakHeld_frame s d addr word).trans (applyAction_frame _ d addr word _)

theorem drainKept_frame (fuel : Nat) : FaceFrame s (drainKept fuel d s) := by
  induction fuel generalizing s with
  | zero => exact .refl s
  | succ n ih =>
    simp only [drainKept]
    split
    · exact .refl s
    · rename_i k rest _
      split
      · exact .refl s
      · have taken := (modTracker_frame s d fun t => { t with kept := rest }).trans (takeWrite_frame _ d k.addr k.word)
        refine taken.trans (FaceFrame.trans ?_ (ih _))
        split
        · exact setTransaction_frame _ _
        · exact .refl _

theorem retakeKept_frame : FaceFrame s (retakeKept d s) := drainKept_frame s d _

theorem releaseKept_frame : FaceFrame s (releaseKept d s) := (modTracker_frame s d _).trans (retakeKept_frame _ d)

theorem arriveWrite_frame (addr : Nat) (word : Word) : FaceFrame s (arriveWrite addr word s) :=
  ((setTransaction_frame s _).trans (modTracker_frame _ _ _)).trans (retakeKept_frame _ _)

/-- R180: what the loader does to device 0's record while a reload waits. -/
theorem loaderAttends_frame : FaceFrame s (loaderAttends s) := by
  simp only [loaderAttends]
  split
  · split
    · split
      · exact raiseService_frame s _ _ _
      · exact .refl s
    · split
      · exact setRecord_frame s _ _
      · exact .refl s
    · split
      · exact raiseService_frame s _ _ _
      · exact .refl s
    · exact .refl s
  · exact .refl s

/-- R180: the loader does nothing to device 0's record while no reload waits, or while the record is in ARRAY. -/
theorem loaderAttends_quiet (h : LoaderQuiet s ∨ s.tracker.dev0.record = .array) : loaderAttends s = s := by
  simp only [loaderAttends]
  split
  · rename_i hh
    rcases h with h | h
    · exact absurd hh (h _)
    · rw [h]
  · rfl

/-- R180: nor where device 0's record gives it nothing to do. -/
theorem loaderAttends_passive (h : LoaderPassive s) : loaderAttends s = s := by
  simp only [loaderAttends]
  split
  · rename_i since hs
    have g := h since hs
    cases hr : s.tracker.dev0.record with
    | status sector =>
      rw [hr] at g
      rcases g with g | ⟨q, g⟩ <;> simp [g, writeStands]
    | refused sector => rw [hr] at g; simp [show sector ≠ s.loader.bootSector from g]
    | suspended sector target o p e =>
      rw [hr] at g
      cases o with
      | part => rfl
      | host => obtain ⟨q, g⟩ := g; simp [g, writeStands]
    | _ => rfl
  · rfl

/-! ### A write taken at once -/

/-- R71, R131: with nothing kept for the record and nothing in its way, a host write is taken at once and its transaction
ends. -/
theorem arriveWrite_settled (addr : Nat) (word : Word) (hk : TrackerSettled s (devOf addr))
    (hp : pathBlocks s (devOf addr) addr word = false) :
    arriveWrite addr word s
      = setTransaction .none (takeWrite (devOf addr) addr word (setTransaction (.write addr word) s)) := by
  obtain ⟨k1, k2⟩ := hk
  let u : State := { s with
    host := { s.host with transaction := .write addr word }
    tracker := s.tracker.set (devOf addr) { s.tracker.get (devOf addr) with
      kept := [{ addr := addr, word := word, hostWaits := true, untilState := false }] } }
  have h1 : pathBlocks u (devOf addr) addr word = false := by
    rw [← hp]
    simp only [u, pathBlocks, writeAction, perDev_get_set, completingAction, guardAllows, lockAt, pendingResumeWaits,
      hostWaiting]
    rfl
  have h2 : stateUnsettled u (devOf addr) = false := by
    rw [← k2]
    simp only [u, stateUnsettled, perDev_get_set, cleanupOutstanding]
  have h3 : s.tracker.set (devOf addr) { s.tracker.get (devOf addr) with kept := [] } = s.tracker := by
    rw [← k1]; exact perDev_set_get _ _
  simp only [u] at h1 h2
  simp only [arriveWrite, retakeKept, modTracker, setTransaction, k1, k2, perDev_get_set, List.nil_append,
    List.length_singleton, drainKept, h1, h2, perDev_set_set, h3, Bool.or_self, Bool.false_eq_true, if_false, if_true]

/-! ### A stalled burst decided again -/

/-- R110, R134: a burst that is no bypass is forwarded with nothing else done when no resume is called for. -/
theorem forwardRead_released (r : ReadRecord) (hb : r.cls ≠ .bypass)
    (hc : (s.controller.get (devOf r.addr)).call = none) : forwardRead r s = s.released r := by
  simp [forwardRead, hb, yieldResume, hc, raiseHost, setTransaction, State.released]

/-- R116: nothing is decided again for a device with no stalled burst. -/
theorem resolveStalled_nothing (h : NothingStalled s d) : resolveStalled d s = s := by
  simp only [resolveStalled]
  split
  · rename_i r ht
    split
    · rename_i since why hs
      rw [if_neg]
      exact fun hd => h r since why ⟨ht, hs, hd⟩
    · rfl
  · rfl

/-- R111: the states in which a miss is forwarded. -/
def Record.forwardsMisses : Record → Bool
  | .array => true
  | .heldProgram _ => true
  | .heldErase _ => true
  | .status _ => true
  | .refused _ => true
  | .suspended .. => true
  | _ => false

/-- R110, R111: a miss of a device in such a state is forwarded. -/
theorem missDecision_forwards (since : Nat) (r : ReadRecord)
    (hr : (s.tracker.get (devOf r.addr)).record.forwardsMisses = true) : missDecision since r s = forwardRead r s := by
  simp only [missDecision]
  split <;> simp_all [Record.forwardsMisses]

/-- R116: in a state in which a miss is forwarded, the stalled burst of a device is released. -/
theorem resolveStalled_releases (hr : (s.tracker.get d).record.forwardsMisses = true) (hb : BypassesPass s d)
    (hc : (s.controller.get d).call = none) : resolveStalled d s = s.releases d := by
  simp only [resolveStalled, State.releases]
  rcases ht : s.host.transaction with _ | r | _ | _ | _ <;> try rfl
  rcases hs : r.stage with _ | _ | _ | ⟨since, why⟩ <;> simp only [hs]
  by_cases hd : devOf r.addr = d
  · subst hd
    rw [if_pos rfl, if_pos rfl, missDecision_forwards _ _ _ hr]
    exact forwardRead_released s r (hb r since why ⟨ht, hs, rfl⟩) hc
  · rw [if_neg hd, if_neg hd]

/-- R112, R122: a burst that is no bypass falls to the miss_policy of its device. -/
theorem fallToPolicy_released (since : Nat) (r : ReadRecord) (hb : r.cls ≠ .bypass)
    (hc : (s.controller.get (devOf r.addr)).call = none) :
    fallToPolicy since r s = (match (s.policy.get (devOf r.addr)).missPolicy with
      | .stall => stallRead since .policy r s
      | .pass => s.released r) := by
  cases hp : (s.policy.get (devOf r.addr)).missPolicy <;>
    simp only [fallToPolicy, hp, forwardRead_released s r hb hc]

/-! ### A kept write taken later -/

/-- R87, R89: what was kept for the host while its record was unsettled is taken, once the record has settled, as a write
that arrives then. -/
theorem releaseKept_keeping (addr : Nat) (word : Word) (hk : (s.tracker.get (devOf addr)).kept = [])
    (hu : stateUnsettled s (devOf addr) = false) (u : Bool) :
    releaseKept (devOf addr) (s.keeping addr word u) = arriveWrite addr word s := by
  simp [releaseKept, arriveWrite, State.keeping, modTracker, setTransaction, hk, hu]

/-- R87, R89: where nothing is kept nothing is taken. -/
theorem releaseKept_nothing (h : (s.tracker.get d).kept = []) : releaseKept d s = s := by
  have h1 : { s.tracker.get d with kept := [] } = s.tracker.get d := by rw [← h]
  simp [releaseKept, retakeKept, drainKept, modTracker, h, h1]

/-! ### Host reset cleanup -/

/-- R89: the record that cleanup leaves at once. -/
def Record.cleaned : Record → Record
  | .heldProgram _ => .array
  | .heldErase _ => .array
  | .refused _ => .array
  | .suspending sector target o _ e => .suspending sector target o true e
  | r => r

/-- R89: the tracker service request that cleanup leaves; a write of its word on the bus stands for it (log 32). -/
def cleanedService (s : State) (d : Dev) : Option ServiceReq :=
  match (s.tracker.get d).record with
  | .status sector =>
    if cleanupOnBus s d (.arrayWrite true) then s.service.get d
    else some { work := .arrayWrite true, addr := sectorBase sector, behind := hostWaiting s d }
  | .suspended sector _ _ _ _ =>
    if cleanupOnBus s d (.resume .cleanup) then s.service.get d
    else some { work := .resume .cleanup, addr := sectorBase sector, behind := hostWaiting s d }
  | _ => s.service.get d

/-- R128: the controller's state that cleanup leaves. -/
def cleanedController (s : State) (d : Dev) : Controller :=
  match (s.tracker.get d).record with
  | .suspended .. => { s.controller.get d with idleTimer := none, holdTimer := none, call := none }
  | _ => s.controller.get d

/-- R89, R128: all that cleanup does to a record. -/
theorem cleanupRecord_eq : cleanupRecord d s = { s with
    tracker := s.tracker.set d { s.tracker.get d with record := (s.tracker.get d).record.cleaned }
    service := s.service.set d (cleanedService s d)
    controller := s.controller.set d (cleanedController s d) } := by
  have h1 : ∀ w : ServiceWork, cleanupOnBus (stopResumeTimers d s) d w = cleanupOnBus s d w := fun w => rfl
  have h2 : ∀ r, (s.tracker.get d).record = r → { s.tracker.get d with record := r } = s.tracker.get d := by
    rintro r rfl; rfl
  simp only [cleanupRecord, cleanedService, cleanedController]
  cases hr : (s.tracker.get d).record <;> simp [setRecord, modTracker, raiseCleanup, h1, Record.cleaned, h2 _ hr]
  · split <;> simp [raiseService]
  · split <;> simp [raiseService, stopResumeTimers, modController, hostWaiting]

theorem cleanupRecord_frame : FaceFrame s (cleanupRecord d s) := by
  rw [cleanupRecord_eq]
  constructor <;> first | rfl | exact .refl _

end Sys2Proof.Machine
end

