-- ==== Sys2Proof/Laws/Banks.lean ====
section
/-! SUPPORT. What the commit unit's shared operations can do, and what a completed read leaves of the ACTIVE bank. -/

namespace Sys2Proof.Machine

variable (s : State)

/-- R14: counting a hit changes a hit count and no entry. -/
theorem entriesOf_set (b : ActiveBank) (i : Nat) (a : ActiveEntry) (n : Nat) (h : activeAt b i = some a) :
    entriesOf (b.setIfInBounds i (some { a with hitCount := n })) = entriesOf b := by
  ext1 k hk
  simp only [entriesOf, Vector.getElem_map, Vector.getElem_setIfInBounds]
  split
  · rename_i e
    subst e
    simp only [activeAt, Vector.getElem?_eq_getElem hk, Option.join_some] at h
    simp [h]
  · rfl

/-- R38: the ACTIVE bank after a switch holds the STAGED bank's entries. -/
theorem entriesOf_switch : entriesOf (switchBanks s).active = s.staged := by
  simp only [switchBanks_active, entriesOf, Vector.map_map]
  ext1 k hk
  simp [Function.comp_def, Option.map_map]

/-- R43: a cancellation does nothing in IDLE and otherwise ends the commit with its notice. -/
theorem cancelCommitWith_cases (detail : Word) :
    (s.commit = .idle ∧ cancelCommitWith detail s = s)
    ∨ (s.commit ≠ .idle ∧ cancelCommitWith detail s = post
        { kind := .commitCancelled, device := none, address := none, entry := none, detail := detail }
        { s with commit := .idle }) := by
  by_cases h : s.commit = .idle <;> simp [cancelCommitWith, h]

theorem cancelCommitWith_idle (detail : Word) : (cancelCommitWith detail s).commit = .idle := by
  rcases cancelCommitWith_cases s detail with ⟨h, e⟩ | ⟨_, e⟩ <;> rw [e]
  · exact h
  · rfl

/-- R37, R40: the end of verification switches at once, waits for the read in progress, or waits for the mark. -/
theorem verificationEnds_cases (f : InFlight) :
    (f.mode = .immediate ∧ readInProgress s = false
      ∧ verificationEnds f s = switchBanks { s with commit := .pendingBoundary f })
    ∨ (f.mode = .immediate ∧ readInProgress s = true ∧ verificationEnds f s = { s with commit := .pendingBoundary f })
    ∨ (∃ mark expiry, f.mode = .atMark mark expiry ∧ verificationEnds f s = { s with commit := .pendingMark f s.clock }) := by
  rcases hm : f.mode with _ | ⟨mark, expiry⟩
  · rcases hr : readInProgress s <;> simp [verificationEnds, hm, hr]
  · exact .inr (.inr ⟨mark, expiry, rfl, by simp [verificationEnds, hm]⟩)

/-- R36: verification goes on at the next checked position, or ends. -/
theorem verifyFrom_cases (f : InFlight) (p : Nat) :
    (∃ q, nextChecked s.staged p = some q
      ∧ verifyFrom f p s = { s with commit := .verifying f { position := q, index := 0, check := crcInit } })
    ∨ (nextChecked s.staged p = none ∧ verifyFrom f p s = verificationEnds f s) := by
  simp only [verifyFrom]
  split
  · exact .inl ⟨_, ‹_›, rfl⟩
  · exact .inr ⟨‹_›, rfl⟩

/-- R34, R35: an accepted commit is rejected by validation or goes to verification. -/
theorem startCommit_cases (f : InFlight) :
    (∃ r, validate s.straps.twoDevices s.staged = some r ∧ startCommit f s = rejectCommit r s)
    ∨ (validate s.straps.twoDevices s.staged = none ∧ startCommit f s = verifyFrom f 0 s) := by
  simp only [startCommit]
  split
  · exact .inl ⟨_, ‹_›, rfl⟩
  · exact .inr ⟨‹_›, rfl⟩

/-- R177: the loader follows the end of its commit, and otherwise nothing is done. -/
theorem loaderFollows_cases :
    (∃ origin count, s.loader.state = .committing origin count ∧ s.commit = .idle
      ∧ loaderFollows s =
        { post { kind := .loadDone, device := some .dev0, address := none, entry := none,
                 detail := BitVec.ofNat 16 count } s with
          loader := { s.loader with state := .idle }
          host := { s.host with loadHold := false } })
    ∨ loaderFollows s = s := by
  simp only [loaderFollows]
  split
  · split
    · exact .inl ⟨_, _, ‹_›, ‹_›, rfl⟩
    · exact .inr rfl
  · exact .inr rfl

/-- R40, R41: a completion reported to the commit unit switches, with the loader following, or does nothing. -/
theorem reportCompletion_cases (line : Nat) :
    (s.commit ≠ .idle ∧ reportCompletion line s = loaderFollows (switchBanks s)) ∨ reportCompletion line s = s := by
  rcases hc : s.commit with _ | _ | f | ⟨f, since⟩
  · simp [reportCompletion, hc]
  · simp [reportCompletion, hc]
  · simp [reportCompletion, hc]
  · rcases hm : f.mode with _ | ⟨mark, expiry⟩
    · simp [reportCompletion, hc, hm]
    · by_cases h : mark = line <;> simp [reportCompletion, hc, hm, h]

/-- R38: the switch, field by field. -/
theorem switchBanks_eq : switchBanks s = s.switched := rfl

/-- R177: where no load commits, nothing follows a commit. -/
theorem loaderFollows_other (h : ∀ origin n, s.loader.state ≠ .committing origin n) : loaderFollows s = s := by
  simp only [loaderFollows]

/-- R177: a load whose commit has ended is done. -/
theorem loaderFollows_committing (origin : LoadOrigin) (n : Nat) (h : s.loader.state = .committing origin n)
    (hc : s.commit = .idle) : loaderFollows s = s.loadDone n := by
  simp only [loaderFollows, h, hc, if_true]; rfl

/-- R40, R41, R135: what a read's completion does for the commit in flight. -/
theorem reportCompletion_completes (line : Nat) : CompletesRead line s (.next (reportCompletion line s)) := by
  refine ⟨fun h => by simp only [reportCompletion, h], fun f c h => by simp only [reportCompletion, h],
    fun f h => ⟨fun g => ?_, fun o n g => ?_⟩, fun f since mark expiry h hm g => ?_⟩
  · rw [← loaderFollows_other s.switched g]
    simp only [reportCompletion, h, switchBanks_eq]
  · rw [← loaderFollows_committing s.switched o n g rfl]
    simp only [reportCompletion, h, switchBanks_eq]
  · simp only [reportCompletion, h, hm]
    split
    · rw [switchBanks_eq, loaderFollows_other s.switched g]
    · rfl

/-- R14: a hit counts on its entry when the generation is the one it noted. -/
theorem countHit_hit (r : ReadRecord) (p k : Nat) (m : EntryMode) (a : ActiveEntry) (h : r.cls = .hit p m k)
    (ha : activeAt s.active p = some a) : countHit r s = if r.generation = s.generation then s.counted p a else s := by
  simp only [countHit, h, ha]
  rfl

/-- R14: a hit whose position holds no entry now counts on none. -/
theorem countHit_absent (r : ReadRecord) (p k : Nat) (m : EntryMode) (h : r.cls = .hit p m k)
    (ha : activeAt s.active p = none) : countHit r s = s := by
  simp only [countHit, h, ha, ite_self]

/-- R14: what is no hit counts on no entry. -/
theorem countHit_other (r : ReadRecord) (h : ∀ p m k, r.cls ≠ .hit p m k) : countHit r s = s := by
  simp only [countHit]

/-- R14: counting a hit changes the ACTIVE bank's hit counts alone. -/
theorem countHit_cases (r : ReadRecord) :
    (∃ i a, activeAt s.active i = some a
      ∧ countHit r s = { s with
          active := s.active.setIfInBounds i (some { a with hitCount := satInc 4294967295 a.hitCount }) })
    ∨ countHit r s = s := by
  simp only [countHit]
  split
  · split
    · split
      · exact .inl ⟨_, _, ‹_›, rfl⟩
      · exact .inr rfl
    · exact .inr rfl
  · exact .inr rfl

theorem countHit_entries (r : ReadRecord) : entriesOf (countHit r s).active = entriesOf s.active := by
  rcases countHit_cases s r with ⟨i, a, h, e⟩ | e <;> rw [e]
  exact entriesOf_set _ _ _ _ h

/-- R6, R38: a bank with no present entry obeys the laws. -/
theorem lawful_empty (two : Bool) : Lawful two (Vector.replicate 64 none) := by
  have none_at : ∀ i, stagedAt (Vector.replicate 64 none) i = none := by
    intro i
    simp only [stagedAt, Vector.getElem?_replicate]
    split <;> rfl
  constructor <;> intros <;> simp_all

/-! ### The release of the host face -/

/-- R135: a completion leaves an idle loader idle. -/
theorem completeRead_loaderIdle (r : ReadRecord) (words : List Word) (h : LoaderIdle s) :
    LoaderIdle (completeRead r words s) := by
  let u : State := { s with host := { s.host with transaction := .none, dataOut := words } }
  have h1 : LoaderIdle (countHit r u) := by
    rcases countHit_cases u r with ⟨i, a, -, e⟩ | e <;> rw [e] <;> exact h
  show LoaderIdle (reportCompletion r.line (countHit r u))
  rcases reportCompletion_cases (countHit r u) r.line with ⟨-, e⟩ | e <;> rw [e]
  · rcases loaderFollows_cases (switchBanks (countHit r u)) with ⟨o, c, -, -, e⟩ | e <;> rw [e]
    exact h1
  · exact h1

/-- R133: the taking of a read leaves an idle loader idle. -/
theorem takeRead_loaderIdle (addr count : Nat) (h : LoaderIdle s) : LoaderIdle (takeRead addr count s) := by
  have miss : ∀ (t : State) (r : ReadRecord) (since : Nat), LoaderIdle t → LoaderIdle (missDecision since r t) := by
    intro t r since g
    show (missDecision since r t).loader.state = _
    rw [(missDecision_frame t since r).loader]
    exact g
  simp only [takeRead]
  split
  · exact completeRead_loaderIdle _ _ _ h
  · split
    · split
      · exact completeRead_loaderIdle _ _ _ h
      · show (forwardRead _ _).loader.state = _
        rw [(forwardRead_frame _ _).loader]
        exact h
    · split
      · exact h
      · exact completeRead_loaderIdle _ _ _ h
      · exact miss _ _ _ h
    · exact miss _ _ _ h

/-- R180: the loader has nothing to do to a record when it is idle. -/
theorem loaderAttends_idle (h : LoaderIdle s) : loaderAttends s = s :=
  loaderAttends_quiet s (.inl fun _ g => nomatch h.symm.trans g)

/-- R139: what is held is taken as it arrives, once load hold is off; nothing else is done. -/
theorem takeHeld_releases (t : State) (hl : LoaderIdle t) (hh : t.host = { s.host with loadHold := false }) :
    ReleasesHost s t (.next (takeHeld t)) := by
  let free : State := { t with host := { s.host with transaction := .none, loadHold := false } }
  have hf : free = { t with host := { t.host with transaction := .none } } := by rw [hh]
  refine ⟨fun hr hw => ?_, fun ha => ⟨fun addr len g => ?_, fun addr word g => ?_⟩⟩
  · have : takeHeld t = t := by
      simp only [takeHeld, hh]
      split
      · rfl
      · rcases e : s.host.transaction with _ | _ | _ | ⟨a, n⟩ | ⟨a, w⟩
        · rfl
        · rfl
        · rfl
        · exact absurd e (hr a n)
        · exact absurd e (hw a w)
    rw [this, ← hh]
  · have e1 : takeHeld t = takeRead addr.toNat (burstWords len) t := by
      simp only [takeHeld, hh, ha, g, Bool.false_eq_true, or_self, if_false]
    have e2 : takeRead addr.toNat (burstWords len) t = takeRead addr.toNat (burstWords len) free := by rw [hf]; rfl
    simp only [exec, execHostRead, presentRead]
    rw [e1, e2, if_neg (by simp [ha]), if_neg (by simp), if_neg (by simp)]
  · have e1 : takeHeld t = arriveWrite addr.toNat word t := by
      simp only [takeHeld, hh, ha, g, Bool.false_eq_true, or_self, if_false]
    have e2 : arriveWrite addr.toNat word t = arriveWrite addr.toNat word free := by rw [hf]; rfl
    have e3 : loaderAttends (arriveWrite addr.toNat word free) = arriveWrite addr.toNat word free := by
      apply loaderAttends_idle
      show (arriveWrite addr.toNat word free).loader.state = _
      rw [(arriveWrite_frame free _ _).loader]
      exact hl
    simp only [exec, execHostWrite, presentWrite, attended]
    rw [if_neg (by simp [ha]), if_neg (by simp), if_neg (by simp), e3, e1, e2]

/-- R139: what is taken at a release leaves an idle loader idle. -/
theorem takeHeld_loaderIdle (h : LoaderIdle s) : LoaderIdle (takeHeld s) := by
  simp only [takeHeld]
  split
  · exact h
  · split
    · exact takeRead_loaderIdle s _ _ h
    · show (arriveWrite _ _ s).loader.state = _
      rw [(arriveWrite_frame s _ _).loader]
      exact h
    · exact h

/-! ### The lock map -/

/-- R93: a range takes a state with its FROZEN sectors skipped. -/
theorem lockAt_applyLock (first count : Nat) (l : Lock) (i : Nat) (hi : i < 512) :
    lockAt (applyLock first count l s) i
      = if first ≤ i ∧ i < first + count ∧ lockAt s i ≠ .frozen then l else lockAt s i := by
  simp [lockAt, applyLock, hi]

/-- R93: FROZEN is not left. -/
theorem applyLock_keeps_frozen (first count : Nat) (l : Lock) (i : Nat) (h : lockAt s i = .frozen) :
    lockAt (applyLock first count l s) i = .frozen := by
  by_cases hi : i < 512
  · rw [lockAt_applyLock s first count l i hi, h]; simp
  · simp [lockAt, hi] at h

end Sys2Proof.Machine
end

