-- ==== Sys2Proof/Laws/Link.lean ====
section
/-! SUPPORT. What the management link does with a whole frame when it is free, and what the common checks come to. -/

namespace Sys2Proof.Machine

variable (s : State)

/-- R188, R189: the state when a free link has received a whole frame: nothing in the slot and nothing waiting. -/
def State.unlinked (s : State) : State :=
  { s with link := { receiver := .hunt, frameBuffer := none, waiting := none, processing := none, slot := none,
                     pendingResponse := none } }

/-! ### Bytes into frames -/

@[simp] theorem setBuffer_receiver (b : List Byte) : (setBuffer b s).link.receiver = s.link.receiver := rfl
@[simp] theorem setBuffer_frameBuffer (b : List Byte) : (setBuffer b s).link.frameBuffer = some b := rfl
@[simp] theorem setBuffer_setBuffer (b c : List Byte) : setBuffer c (setBuffer b s) = setBuffer c s := rfl

theorem setBuffer_self (b : List Byte) (h : s.link.frameBuffer = some b) : setBuffer b s = s := by
  simp only [setBuffer, ← h]

/-! ### Byte times out -/

@[simp] theorem sendByte_receiver : (sendByte s).link.receiver = s.link.receiver := rfl
@[simp] theorem sendByte_frameBuffer : (sendByte s).link.frameBuffer = s.link.frameBuffer := rfl
@[simp] theorem sendByte_waiting : (sendByte s).link.waiting = s.link.waiting := rfl
@[simp] theorem sendByte_slot : (sendByte s).link.slot = clockOut s.link.slot := rfl
@[simp] theorem clockOut_none : clockOut none = none := rfl

/-- R186: an empty slot sends 0x00 and stays empty. -/
theorem sendByte_empty (h : s.link.slot = none) : sendByte s = s := by
  show { s with link := { s.link with slot := clockOut s.link.slot } } = s
  rw [h, clockOut_none, ← h]

theorem sendBytes_empty (n : Nat) (h : s.link.slot = none) : sendBytes n s = s := by
  induction n with
  | zero => rfl
  | succ n ih => rw [sendBytes, sendByte_empty s h, ih]

/-- Byte times change nothing but the slot. -/
theorem sendBytes_frame (n : Nat) :
    sendBytes n s = { s with link := { s.link with slot := (sendBytes n s).link.slot } } := by
  induction n generalizing s with
  | zero => rfl
  | succ n ih => rw [sendBytes, ih (sendByte s)]; rfl

@[simp] theorem sendBytes_receiver (n : Nat) : (sendBytes n s).link.receiver = s.link.receiver := by
  rw [sendBytes_frame]

@[simp] theorem sendBytes_frameBuffer (n : Nat) : (sendBytes n s).link.frameBuffer = s.link.frameBuffer := by
  rw [sendBytes_frame]

theorem sendBytes_setBuffer (b : List Byte) (n : Nat) : sendBytes n (setBuffer b s) = setBuffer b (sendBytes n s) := by
  induction n generalizing s with
  | zero => rfl
  | succ n ih => exact ih (sendByte s)

theorem sendBytes_sendByte (n : Nat) : sendBytes n (sendByte s) = sendByte (sendBytes n s) := by
  induction n generalizing s with
  | zero => rfl
  | succ n ih => exact ih (sendByte s)

/-- R197: while bytes are left the output position advances by one in each byte time. -/
theorem sendBytes_position (k : Nat) (x : ResponseSlot) (h : s.link.slot = some x)
    (hk : x.position + k < x.response.bytes.length) :
    (sendBytes k s).link.slot = some { x with position := x.position + k } := by
  induction k generalizing s x with
  | zero => exact h
  | succ k ih =>
    have h1 : (sendByte s).link.slot = some { x with position := x.position + 1 } := by
      rw [sendByte_slot, h]; exact if_pos (by omega)
    have h2 := ih _ _ h1 (by simp only; omega)
    simpa only [sendBytes, Nat.add_assoc, Nat.add_comm 1 k] using h2

/-! ### Frames -/

/-- R188: a buffer that is not yet a whole frame, and whose argument length, once there, can be received. -/
def Partial (b : List Byte) : Prop := b.length < 4 ∨ (frameLength b ≤ Config.argumentLimit ∧ b.length < frameLength b + 6)

theorem takeFrameBytes_partial (b : List Byte) (h : Partial b) :
    takeFrameBytes b s = setBuffer b s := by
  simp only [takeFrameBytes]
  split
  · rfl
  · rcases h with h | ⟨h, g⟩
    · omega
    · rw [if_neg (by omega), if_pos g]

/-- R188: bytes that do not yet complete the frame join its buffer, each in its byte time. -/
theorem receiveBytes_partial (l b : List Byte) (hr : s.link.receiver = .receiving) (hb : s.link.frameBuffer = some b)
    (h : ∀ k, 1 ≤ k → k ≤ l.length → Partial (b ++ l.take k)) :
    receiveBytes l s = setBuffer (b ++ l) (sendBytes l.length s) := by
  induction l generalizing b s with
  | nil => simpa [receiveBytes, sendBytes] using (setBuffer_self s b hb).symm
  | cons x l ih =>
    have h1 : byteTime x s = setBuffer (b ++ [x]) (sendByte s) := by
      simp only [byteTime, receiveByte, sendByte_receiver, sendByte_frameBuffer, hr, hb, Option.getD_some]
      exact takeFrameBytes_partial _ _ (by simpa using h 1 (by simp) (by simp))
    have h2 := ih (setBuffer (b ++ [x]) (sendByte s)) (b ++ [x]) hr rfl
      (fun k h3 h4 => by simpa using h (k + 1) (by omega) (by simpa using h4))
    change receiveBytes l (byteTime x s) = _
    rw [h1, h2, sendBytes_setBuffer]
    simp [sendBytes]

/-- R188: a receiver that discards takes no notice of what it receives. -/
theorem receiveBytes_discarding (l : List Byte) (hr : s.link.receiver = .discarding) :
    receiveBytes l s = sendBytes l.length s := by
  induction l generalizing s with
  | nil => rfl
  | cons x l ih =>
    have h1 : byteTime x s = sendByte s := by simp only [byteTime, receiveByte, sendByte_receiver, hr]
    change receiveBytes l (byteTime x s) = _
    rw [h1, ih (sendByte s) hr]
    rfl

/-- 0.4.4: two bytes carry a number below 65,536. -/
theorem beNat_be16 (n : Nat) (h : n < 65536) : beNat (be16 n) = n := by
  simp only [be16, beNat, List.foldl_cons, List.foldl_nil, BitVec.toNat_ofNat]
  omega

theorem frameLength_cons (code tag : Byte) (n : Nat) (rest : List Byte) (h : n < 65536) :
    frameLength (code :: tag :: be16 n ++ rest) = n := by
  simpa [frameLength, be16] using beNat_be16 n h

/-- R187 to R189: the bytes of a whole frame, from its command code to its check value, complete it. -/
theorem receiveBytes_frame (code tag c1 c0 : Byte) (args : List Byte) (ha : args.length ≤ Config.argumentLimit)
    (hr : s.link.receiver = .receiving) (hb : s.link.frameBuffer = some []) :
    receiveBytes (frameBody code tag args ++ [c1, c0]) s
      = frameComplete { code := code, tag := tag, args := args,
                        checkOk := be16 (crcBytes (frameBody code tag args)).toNat == [c1, c0] }
          (sendBytes (args.length + 6) s) := by
  have hl : args.length < 65536 := by simp only [Config.argumentLimit] at ha; omega
  have hlen : ∀ rest : List Byte, frameLength (code :: tag :: be16 args.length ++ rest) = args.length :=
    fun rest => frameLength_cons code tag _ rest hl
  have hbody : (frameBody code tag args).length = args.length + 4 := by simp [frameBody, be16]
  have hfull : frameLength (frameBody code tag args ++ [c1, c0]) = args.length := by
    simp only [frameBody, List.append_assoc, List.cons_append]
    exact hlen _
  have hp := receiveBytes_partial s (frameBody code tag args ++ [c1]) [] hr hb (by
    intro k h1 h2
    by_cases h4 : k < 4
    · exact .inl (by simp; omega)
    · have h3 : frameLength ((frameBody code tag args ++ [c1]).take k) = args.length := by
        obtain ⟨m, rfl⟩ : ∃ m, k = m + 4 := ⟨k - 4, by omega⟩
        rw [show (frameBody code tag args ++ [c1]).take (m + 4)
          = code :: tag :: be16 args.length ++ (args ++ [c1]).take m from rfl]
        exact hlen _
      refine .inr ⟨by simpa [h3] using ha, ?_⟩
      simp only [List.nil_append, h3, List.length_take]
      simp [hbody] at h2 ⊢)
  have hsplit : receiveBytes (frameBody code tag args ++ [c1, c0]) s
      = byteTime c0 (receiveBytes (frameBody code tag args ++ [c1]) s) := by
    simp [receiveBytes, List.foldl_append]
  rw [hsplit, hp]
  simp only [byteTime, receiveByte, sendByte_receiver, sendByte_frameBuffer, setBuffer_receiver, setBuffer_frameBuffer,
    sendBytes_receiver, hr, Option.getD_some, List.nil_append, takeFrameBytes, List.append_assoc, List.cons_append]
  rw [if_neg (by simp [hbody]), if_neg (by simpa [hfull] using ha), if_neg (by simp [hfull, hbody])]
  have hf : frameOf (frameBody code tag args ++ [c1, c0])
      = { code := code, tag := tag, args := args,
          checkOk := be16 (crcBytes (frameBody code tag args)).toNat == [c1, c0] } := by
    have h5 : (frameBody code tag args ++ [c1, c0]).take (4 + args.length) = frameBody code tag args :=
      List.take_left' (by omega)
    have h6 : (frameBody code tag args ++ [c1, c0]).drop (4 + args.length) = [c1, c0] := List.drop_left' (by omega)
    have h7 : ((frameBody code tag args ++ [c1, c0]).drop 4).take args.length = args := by
      rw [show (frameBody code tag args ++ [c1, c0]).drop 4 = args ++ [c1, c0] from rfl]
      exact List.take_left' rfl
    simp only [frameOf, hfull, h5, h6, h7]
    rfl
  have hn : (frameBody code tag args ++ [c1]).length = args.length + 5 := by simp [hbody]
  rw [hf, hn, show sendBytes (args.length + 6) s = sendByte (sendBytes (args.length + 5) s) from sendBytes_sendByte s _]
  rfl

/-- R187 to R189: the `n` byte times of a whole frame after its start byte, `k` what the frame comes to when it is received. A
receiver that is not in HUNT and has begun no frame takes no notice of them. -/
def receiveWhole (n : Nat) (k : State → State) (s : State) : State :=
  match s.link.receiver with
  | .receiving => k (sendBytes n s)
  | .hunt => if s.link.waiting.isSome then sendBytes n (startByte (sendByte s)) else k (startByte s)
  | _ => sendBytes (n + 1) s

/-- R189: what a completed frame leaves does not depend on the frame buffer. -/
theorem frameComplete_buffer (f : Frame) (b : List Byte) : frameComplete f (setBuffer b s) = frameComplete f s := rfl

theorem receiveBytes_init (l : List Byte) (hr : s.link.receiver = .init) : receiveBytes l s = sendBytes l.length s := by
  induction l generalizing s with
  | nil => rfl
  | cons x l ih =>
    have h1 : byteTime x s = sendByte s := by simp only [byteTime, receiveByte, sendByte_receiver, hr]
    change receiveBytes l (byteTime x s) = _
    rw [h1, ih (sendByte s) hr]
    rfl

/-- R188: a start byte that begins a frame empties the slot, whatever the byte time has sent. -/
theorem byteTime_start (hr : s.link.receiver = .hunt) (hw : s.link.waiting = none) :
    byteTime 0xA6 s = startByte s := by
  simp only [byteTime, receiveByte, sendByte_receiver, hr, if_true, startByte, sendByte_waiting, hw]
  rfl

theorem receiveFrame_eq (bytes : List Byte) (k : State → State)
    (h : ∀ t : State, t.link.receiver = .receiving →
      receiveBytes bytes (setBuffer [] t) = k (sendBytes bytes.length t)) :
    receiveFrame bytes s = receiveWhole bytes.length k s := by
  have hc : ∀ t, receiveBytes (0xA6 :: bytes) t = receiveBytes bytes (byteTime 0xA6 t) := fun _ => rfl
  rcases hr : s.link.receiver with _ | _ | _ | _
  · simp only [receiveFrame, receiveWhole, hr]
    exact receiveBytes_init s _ hr
  · simp only [receiveFrame, receiveWhole, hr, hc]
    rcases hw : s.link.waiting with _ | f
    · have h1 : (startByte s).link.receiver = .receiving ∧ (startByte s).link.slot = none
          ∧ (startByte s).link.frameBuffer = some [] := by simp [startByte, hw]
      have h2 := h _ h1.1
      rw [setBuffer_self _ _ h1.2.2, sendBytes_empty _ _ h1.2.1] at h2
      rw [byteTime_start s hr hw]
      exact h2
    · have h1 : byteTime 0xA6 s = startByte (sendByte s) := by
        simp only [byteTime, receiveByte, sendByte_receiver, hr, if_true]
      simp only [h1, Option.isSome_some, if_true]
      exact receiveBytes_discarding _ _ (by simp [startByte, hw])
  · simp only [receiveFrame, receiveWhole, hr]
    exact h _ hr
  · simp only [receiveFrame, receiveWhole, hr]
    exact receiveBytes_discarding s _ hr

/-- R192: a request frame whose check value matches. -/
theorem request_eq (code tag : Byte) (args : List Byte) (ha : args.length ≤ Config.argumentLimit) :
    request code tag args s = receiveWhole (args.length + 6) (frameComplete (goodFrame code tag args)) s := by
  have hn : (frameBody code tag args ++ be16 (crcBytes (frameBody code tag args)).toNat).length = args.length + 6 := by
    simp [frameBody, be16]
  rw [← hn]
  refine receiveFrame_eq s _ _ fun t ht => ?_
  rw [hn]
  simp only [be16, receiveBytes_frame (setBuffer [] t) code tag _ _ args ha ht rfl, sendBytes_setBuffer, frameComplete_buffer,
    beq_self_eq_true]
  rfl

/-- R188, R189, R191: a request that reaches a free link is processed at once. -/
theorem request_free (code tag : Byte) (args : List Byte) (h : LinkFree s) (ha : args.length ≤ Config.argumentLimit) :
    request code tag args s = beginProcessing (goodFrame code tag args) s.unlinked := by
  obtain ⟨h1, h2, h3⟩ := h
  simp [request_eq s code tag args ha, receiveWhole, startByte, h1, h2, h3, frameComplete, State.unlinked]

/-- R192: two check values that differ in a bit differ in a byte. -/
theorem be16_flip (c : Word) : be16 c.toNat ≠ be16 (c ^^^ 1).toNat := by
  intro h
  have h2 := congrArg beNat h
  rw [beNat_be16 _ c.isLt, beNat_be16 _ (c ^^^ 1).isLt] at h2
  have h3 := congrArg (fun x => x ^^^ c) (BitVec.eq_of_toNat_eq h2)
  simp at h3

/-- R192: a frame whose check value does not match is answered BAD_FRAME by a free link. -/
theorem damagedFrame_free (tag : Byte) (h : LinkFree s) : damagedFrame tag s = s.answered tag .badFrame [] := by
  obtain ⟨h1, h2, h3⟩ := h
  have hk : damagedFrame tag s
      = receiveWhole 6 (frameComplete { code := 0, tag := tag, args := [], checkOk := false }) s := by
    refine receiveFrame_eq s _ _ fun t ht => ?_
    rw [be16, receiveBytes_frame (setBuffer [] t) 0 tag _ _ [] (by decide) ht rfl, sendBytes_setBuffer, frameComplete_buffer,
      ← be16, beq_eq_false_iff_ne.mpr (be16_flip _)]
    rfl
  simp [hk, receiveWhole, startByte, h1, h2, h3, frameComplete, beginProcessing, serve, placeResponse, State.answered,
    Link.answered]

/-- R188: a frame too long to be received is answered BAD_FRAME by a free link, and the rest of it is discarded. -/
theorem overlongFrame_free (tag : Byte) (h : LinkFree s) : overlongFrame tag s = { s with
    link := { Link.answered tag .badFrame [] with receiver := .discarding } } := by
  obtain ⟨h1, h2, h3⟩ := h
  simp [overlongFrame, receiveFrame, byteTime, sendByte, receiveByte, startByte, h1, h2, h3, receiveBytes, takeFrameBytes,
    frameLength, beNat, Config.argumentLimit, frameTooLong, placeResponse, Link.answered, setBuffer]

/-! ### Responses out -/

/-- R197, R198: as many byte times as a response has bytes left send it whole, and the slot is empty. -/
theorem sendBytes_empties (n : Nat) (x : ResponseSlot) (h : s.link.slot = some x) (hn : 1 ≤ n)
    (hx : x.response.bytes.length ≤ x.position + n) :
    sendBytes n s = { s with link := { s.link with slot := none } } := by
  induction n generalizing s x with
  | zero => omega
  | succ n ih =>
    by_cases hp : x.position + 1 < x.response.bytes.length
    · have h1 : (sendByte s).link.slot = some { x with position := x.position + 1 } := by
        rw [sendByte_slot, h]; exact if_pos hp
      rw [sendBytes, ih _ { x with position := x.position + 1 } h1 (by omega) (by simp only; omega)]
      rfl
    · have h1 : (sendByte s).link.slot = none := by rw [sendByte_slot, h]; exact if_neg hp
      rw [sendBytes, sendBytes_empty _ n h1, sendByte, ← h1]
      rfl

/-- R198: a response clocked out leaves the slot empty, wherever its output position stood. -/
theorem sendResponse_empties : sendResponse s = { s with link := { s.link with slot := none } } := by
  simp only [sendResponse]
  split
  · rename_i x h
    exact sendBytes_empties s _ x h (by simp [Response.bytes]) (by omega)
  · rename_i h
    rw [← h]

/-! ### The common checks -/

/-- R192, R193: a known code is handed to its command unless the loader runs and the command is not one it allows. -/
theorem serve_known (f : Frame) (hf : f.checkOk = true) (hk : knownCodes.contains f.code = true)
    (hl : LoaderIdle s ∨ loaderAnswers f.code = true) : serve f s = runCommand f s := by
  have : ¬ (loaderRunning s ∧ ¬ loaderAnswers f.code) := by
    rintro ⟨h, g⟩
    rcases hl with hl | hl
    · simp [loaderRunning, hl] at h
    · exact g hl
  simp only [serve]
  rw [if_neg (not_not_intro hf), if_neg (not_not_intro hk), if_neg this]

/-- R193: while the loader runs, a known code that it does not allow is NOT_READY. -/
theorem serve_notReady (f : Frame) (hf : f.checkOk = true) (hk : knownCodes.contains f.code = true)
    (hl : s.loader.state ≠ .idle) (ha : loaderAnswers f.code = false) : serve f s = .reply (.notReady, []) s := by
  have : loaderRunning s ∧ ¬ loaderAnswers f.code := by simp [loaderRunning, hl, ha]
  simp only [serve]
  rw [if_neg (not_not_intro hf), if_neg (not_not_intro hk), if_pos this]

/-- R191: a reply in the first step of processing answers the request. -/
theorem beginProcessing_reply (f : Frame) (r : Reply) (t : State) (h : serve f s = .reply r t) :
    beginProcessing f s = placeResponse { tag := f.tag, status := r.1, payload := r.2 } t := by
  simp [beginProcessing, h]

/-- R191: a reply to a free link leaves the link answered and everything else as the command left it. -/
theorem placeResponse_unlinked (tag : Byte) (status : RespStatus) (payload : List Byte) :
    placeResponse { tag := tag, status := status, payload := payload } s.unlinked = s.answered tag status payload := rfl

end Sys2Proof.Machine
end

