-- ==== Sys2Proof/Laws/Store.lean ====
section
/-! SUPPORT. The overlay store: a read after a write, and the canonical form that every store operation keeps. -/

namespace Sys2Proof.Machine

/-! ### Reads after writes -/

theorem store_read_erase_same (m : Store) (a : Nat) : (m.erase a).read a = Store.blankWord := by
  induction m with
  | nil => rfl
  | cons c rest ih =>
    by_cases h : c.1 = a
    · simpa [Store.erase, h] using ih
    · have h' : ¬ a = c.1 := fun e => h e.symm
      simpa [Store.erase, h, Store.read, h'] using ih

theorem store_read_erase_other (m : Store) {a b : Nat} (h : b ≠ a) : (m.erase a).read b = m.read b := by
  induction m with
  | nil => rfl
  | cons c rest ih =>
    obtain ⟨k, w⟩ := c
    simp only [Store.erase] at ih ⊢
    by_cases hk : k = a
    · rw [List.filter_cons_of_neg (by simp [hk]), ih, Store.read, if_neg (by omega)]
    · rw [List.filter_cons_of_pos (by simp [hk]), Store.read, Store.read, ih]

theorem store_read_insert_same (m : Store) (a : Nat) (w : Word) (h : ∀ c ∈ m, c.1 ≠ a) :
    (m.insert a w).read a = w := by
  induction m with
  | nil => simp [Store.insert, Store.read]
  | cons c rest ih =>
    obtain ⟨k, v⟩ := c
    have hk : k ≠ a := h (k, v) (by simp)
    have hk' : ¬ a = k := fun e => hk e.symm
    have ih := ih fun c hc => h c (by simp [hc])
    simp only [Store.insert]
    split <;> simp [Store.read, hk', ih]

theorem store_read_insert_other (m : Store) {a b : Nat} (w : Word) (h : b ≠ a) :
    (m.insert a w).read b = m.read b := by
  induction m with
  | nil => simp [Store.insert, Store.read, h]
  | cons c rest ih =>
    obtain ⟨k, v⟩ := c
    simp only [Store.insert]
    split
    · simp [Store.read, h]
    · simp [Store.read, ih]

theorem store_erase_ne (m : Store) (a : Nat) : ∀ c ∈ m.erase a, c.1 ≠ a := by
  intro c hc
  simpa [Store.erase] using (List.mem_filter.mp hc).2

/-- R50: a write replaces the value of its word. -/
@[simp] theorem store_read_write_same (m : Store) (a : Nat) (w : Word) : (m.write a w).read a = w := by
  simp only [Store.write]
  split
  · rename_i h; rw [store_read_erase_same, h]
  · exact store_read_insert_same _ _ _ (store_erase_ne m a)

/-- R50: a write leaves every other word as it was. -/
theorem store_read_write_other (m : Store) {a b : Nat} (w : Word) (h : b ≠ a) : (m.write a w).read b = m.read b := by
  simp only [Store.write]
  split
  · exact store_read_erase_other m h
  · rw [store_read_insert_other _ w h, store_read_erase_other m h]

/-- R48: two words have one address only when they are one word. -/
theorem storeAddr_inj {a b o k : Nat} (ho : o ≤ 15) (hk : k ≤ 15) (h : storeAddr a o = storeAddr b k) :
    a = b ∧ o = k := by
  simp only [storeAddr, Config.lineWords] at h
  omega

/-- R50: a write to one slot leaves the words of another as they were. -/
theorem storeRead_storeWrite_other {slot slot' o o' : Nat} (w : Word) (s : State) (ho : o ≤ 15) (ho' : o' ≤ 15)
    (h : slot' ≠ slot) : storeRead (storeWrite slot o w s) slot' o' = storeRead s slot' o' := by
  refine store_read_write_other _ _ fun e => h ?_
  exact (storeAddr_inj ho' ho e).1

/-! ### The canonical form -/

/-- The canonical form, as a proposition. -/
theorem store_wf_iff (m : Store) :
    m.wf = true ↔ (m.Pairwise fun c d => c.1 < d.1) ∧ ∀ c ∈ m, c.2 ≠ Store.blankWord := by
  simp [Store.wf]

theorem store_insert_mem (m : Store) (a : Nat) (w : Word) (c : Nat × Word) (h : c ∈ m.insert a w) :
    c = (a, w) ∨ c ∈ m := by
  induction m with
  | nil => simpa [Store.insert] using h
  | cons e rest ih =>
    obtain ⟨k, v⟩ := e
    simp only [Store.insert] at h
    split at h
    · simpa using h
    · rcases List.mem_cons.mp h with h | h
      · exact .inr (by simp [h])
      · rcases ih h with h | h
        · exact .inl h
        · exact .inr (by simp [h])

theorem store_insert_pairwise (m : Store) (a : Nat) (w : Word) (h : m.Pairwise fun c d => c.1 < d.1)
    (ha : ∀ c ∈ m, c.1 ≠ a) : (m.insert a w).Pairwise fun c d => c.1 < d.1 := by
  induction m with
  | nil => simp [Store.insert]
  | cons e rest ih =>
    obtain ⟨k, v⟩ := e
    obtain ⟨h1, h2⟩ := List.pairwise_cons.mp h
    have hk : k ≠ a := ha (k, v) (by simp)
    simp only [Store.insert]
    split
    · rename_i hlt
      refine List.pairwise_cons.mpr ⟨fun c hc => ?_, h⟩
      rcases List.mem_cons.mp hc with rfl | hc
      · exact hlt
      · exact Nat.lt_trans hlt (h1 c hc)
    · rename_i hge
      refine List.pairwise_cons.mpr ⟨fun c hc => ?_, ih h2 fun c hc => ha c (by simp [hc])⟩
      rcases store_insert_mem rest a w c hc with rfl | hc
      · show k < a
        omega
      · exact h1 c hc

/-- A write keeps the canonical form. -/
theorem store_write_wf (m : Store) (a : Nat) (w : Word) (h : m.wf = true) : (m.write a w).wf = true := by
  obtain ⟨h1, h2⟩ := (store_wf_iff m).mp h
  have e1 : (m.erase a).Pairwise fun c d => c.1 < d.1 := h1.filter _
  have e2 : ∀ c ∈ m.erase a, c.2 ≠ Store.blankWord := fun c hc => h2 c (List.mem_filter.mp hc).1
  refine (store_wf_iff _).mpr ?_
  simp only [Store.write]
  split
  · exact ⟨e1, e2⟩
  · rename_i hw
    refine ⟨store_insert_pairwise _ a w e1 (store_erase_ne m a), fun c hc => ?_⟩
    rcases store_insert_mem _ a w c hc with rfl | hc
    · exact hw
    · exact e2 c hc

/-- The port's write keeps the canonical form. -/
theorem storeWrite_wf (slot offset : Nat) (w : Word) (s : State) (h : s.store.wf = true) :
    (storeWrite slot offset w s).store.wf = true :=
  store_write_wf _ _ _ h

/-- R48: every store word holds 0xFFFF after power-on, and the form holds there. -/
theorem reset_store_wf : State.reset.store.wf = true := by decide

theorem reset_store_read (a : Nat) : State.reset.store.read a = 0xFFFF := rfl

end Sys2Proof.Machine
end

