-- ==== Sys2Proof/Tests/Slice0.lean ====
section
/-! SUPPORT. The project's own tests: ill-formed commands refused, frames written out byte by byte, single steps with
results taken from the spec's worked examples and tables, and for each statement with hypotheses a state that meets them. -/

namespace Sys2Proof.Tests

open Machine

set_option Elab.async false

/-! ### States -/

/-- A tracker record in its state, with nothing outstanding. -/
def tracked (r : Record) : Tracker := { record := r, armed := false, reading := false, keptRun := none, kept := [] }

/-- The part in use: the loader idle, both devices in ARRAY, the host face open. -/
def ready : State := { State.reset with
  tracker := { dev0 := tracked .array, dev1 := tracked .array }
  readyLine := { dev0 := true, dev1 := true }
  loader := { state := .idle, bootSector := 0 }
  host := { transaction := .none, loadHold := false, resetAsserted := false, dataOut := [], dropped := none } }

/-- The part with device 0's record in a state. -/
def with0 (r : Record) : State := { ready with tracker := { dev0 := tracked r, dev1 := tracked .array } }

/-- The part with one entry in ACTIVE position 3. -/
def withActive (e : Entry) : State :=
  { ready with active := ready.active.setIfInBounds 3 (some { entry := e, hitCount := 0 }) }

/-- The part with one entry in STAGED position 3. -/
def withStaged (e : Entry) : State := { ready with staged := ready.staged.setIfInBounds 3 (some e) }

def replaceEntry (line slot : Nat) (follow : Bool) (check : Option Word) : Entry :=
  { firstLine := line, lineCount := 1, mode := .replace slot follow check }
def blankEntry : Entry := { firstLine := 4096, lineCount := 1, mode := .blank 0x1234 }
def trapEntry : Entry := { firstLine := 4096, lineCount := 1, mode := .trap }

def inFlight (m : CommitMode) : InFlight := { mode := m, origin := .management }
def fields (count snapshot : Nat) : EraseFields := { count := count, snapshot := snapshot, disabled := false }

/-- The state a command leaves. -/
def after (c : Instr) (s : State) : State :=
  match exec c s with
  | .next t => t
  | _ => s

/-- The status and payload in the response slot. -/
def reply (s : State) : Option (RespStatus × List Byte) := s.link.slot.map fun x => (x.response.status, x.response.payload)

/-! ### Well-formedness -/

theorem test_badCommand_with_a_known_code_is_ill_formed : (Instr.badCommand 0x14 0 []).wellFormed = false := by decide

theorem test_badCommand_with_an_unknown_code_is_well_formed : (Instr.badCommand 0x16 0 []).wellFormed = true := by decide

theorem test_too_many_arguments_are_ill_formed : argsFit (List.replicate 1025 0) = false := by decide +kernel

theorem test_a_request_with_too_many_arguments_is_ill_formed :
    (Instr.writeStore 0 (List.replicate 1025 0)).wellFormed = false := by decide +kernel

theorem test_the_longest_request_is_well_formed :
    (Instr.writeStore 0 (List.replicate 1024 0)).wellFormed = true := by decide +kernel

/-! ### Check values and frames (R2, R187) -/

/-- The published vector of the check with this polynomial and this initial value, "123456789" (outside the spec). -/
theorem test_check_value :
    crcBytes [0x31, 0x32, 0x33, 0x34, 0x35, 0x36, 0x37, 0x38, 0x39] = 0x29B1 := by decide +kernel

/-- R2: a word enters high byte first. -/
theorem test_check_value_of_a_word : crcWords [0x3C11] = crcBytes [0x3C, 0x11] := by decide +kernel

/-- R187: start byte, code, tag, length, check value; the check values were worked out by hand apart from the model. -/
theorem test_get_identity_frame :
    decodeFrame [0xA6, 0x01, 0x05, 0x00, 0x00, 0x19, 0x84]
      = some (.getIdentity 0x05 []) := by decide +kernel

theorem test_set_store_pointer_frame :
    decodeFrame [0xA6, 0x20, 0x07, 0x00, 0x03, 0x07, 0xFF, 0x0F, 0xBB, 0x25]
      = some (.setStorePointer 0x07 [0x07, 0xFF, 0x0F]) := by decide +kernel

theorem test_damaged_frame : decodeFrame [0xA6, 0x01, 0x05, 0x00, 0x00, 0x00, 0x00] = some (.badFrame 0x05 .checkMismatch) := by
  decide +kernel

theorem test_overlong_frame : decodeFrame [0xA6, 0x21, 0x05, 0x04, 0x01] = some (.badFrame 0x05 .argumentLength) := by
  decide +kernel

/-- R185: the bytes received so far are in the frame buffer; R189: the last byte completes the frame. -/
theorem test_bytes_fill_the_frame_buffer :
    (receiveBytes [0xA6, 0x01, 0x05, 0x00] ready).link.frameBuffer = some [0x01, 0x05, 0x00] := by decide +kernel

theorem test_the_last_byte_completes_the_frame :
    reply (receiveBytes [0xA6, 0x20, 0x07, 0x00, 0x03, 0x07, 0xFF, 0x0F, 0xBB, 0x25] ready) = some (.ok, []) := by
  decide +kernel

/-- R197, R186: a byte time moves the output position on; a deselection takes it back to the first byte. -/
theorem test_a_byte_time_moves_the_position :
    ((sendBytes 2 (ready.answered 5 .ok [])).link.slot.map (·.position), ldo (sendBytes 1 (ready.answered 5 .ok [])),
      (deselect (sendBytes 2 (ready.answered 5 .ok []))).link.slot.map (·.position)) = (some 2, 0x05, some 0) := by
  decide +kernel

/-- R197: in DISCARDING too, the byte time that a start byte takes moves the output position on. -/
theorem test_a_byte_time_in_DISCARDING_moves_the_position :
    (after .startByteReceived { ready.answered 5 .ok [] with
      link := { (ready.answered 5 .ok []).link with receiver := .discarding } }).link.slot.map (·.position) = some 1 := by
  decide +kernel

/-- R89, R151: a reset while a cleanup RESUME holds the bus raises no second one, which a rise would take back. -/
theorem test_a_second_reset_raises_no_second_RESUME :
    (after .hostReset { with0 (.suspended 5 327680 .host false none) with
      bus := some (.service .dev0 (.resume .cleanup) 327680) }).service.dev0 = none := by decide +kernel

theorem test_no_word_spells_a_command : decodeTableWord 8 1 = none := rfl

/-! ### Single steps -/

/-- R200: the identity of a part with two devices. -/
theorem test_identity :
    reply (after (.getIdentity 5 []) ready) = some (.ok, [0x64, 0x20, 0x01, 0x08, 0x00, 0x40, 0x02]) := by decide +kernel

/-- R193: a request while the loader runs. -/
theorem test_not_ready : reply (after (.commit 5 [1]) State.reset) = some (.notReady, []) := by decide +kernel

/-- R8, R10: a burst of a REPLACE line is answered from the store, whatever address of its block it begins at. -/
theorem test_replace_burst :
    (after .storePortAccess (after (.hostRead 65543 .one)
      { withActive (replaceEntry 4096 5 false none) with store := [(87, 0x4711)] })).host.dataOut = [0x4711] := by
  decide +kernel

/-- R11: a BLANK line's words. -/
theorem test_blank_burst : (after (.hostRead 65536 .four) (withActive blankEntry)).host.dataOut
    = [0x1234, 0x1234, 0x1234, 0x1234] := by decide +kernel

/-- R83: the synthetic status word of a refused sector. -/
theorem test_refused_status : (after (.hostRead 327680 .one) (with0 (.refused 5))).host.dataOut = [0x0089] := by
  decide +kernel

/-- The worked guard refusal of 4.9: an erase of a LOCKED sector. -/
theorem test_guard_refuses :
    (after (.hostWrite 327680 0x3CEE)
        { with0 (.heldErase 327680) with locks := ready.locks.setIfInBounds 5 .locked }).tracker.dev0.record
      = .refused 5 := by decide +kernel

/-- R73: an erase of an OPEN sector raises its command pair. -/
theorem test_guard_allows :
    (after (.hostWrite 327680 0x3CEE) (with0 (.heldErase 327690))).hostPath
      = [.pair 327690 0x3C22 327680 0x3CEE] := by decide +kernel

/-- R72: an ERASE word is held and nothing is forwarded. -/
theorem test_erase_is_held :
    (after (.hostWrite 327680 0x3C22) ready).tracker.dev0.record = .heldErase 327680 := by decide +kernel

/-- R17, R16: a program's follow write clears bits and sets none. -/
theorem test_follow_write_ands :
    (after .storePortAccess { ready with
      store := [(80, 0xFF0F)]
      follow := { current := some (.program .dev0 5 0 0x0FFF), waiting := [] } }).store = [(80, 0x0F0F)] := by
  decide +kernel

/-- R51: a management write to a live slot is refused. -/
theorem test_live_slot_refuses :
    reply (after .storePortAccess
        { (after (.writeStore 5 [0, 1, 0x12, 0x34])
            { withActive (replaceEntry 4096 5 false none) with ptr := { slot := 5, offset := 0 } }) with clock := 0 })
      = some (.refusedLive, [0, 0, 0, 5, 0]) := by decide +kernel

/-- R53: the pointer moves from the last word of the store to the end of store. -/
theorem test_pointer_reaches_the_end :
    (StorePtr.next { slot := 2047, offset := 15 }) = { slot := 2048, offset := 0 } := by decide

/-- R35: two entries on one line, the higher position at fault, the lowest common line in the notice. -/
theorem test_overlap_is_rejected :
    validate true ((ready.staged.setIfInBounds 3 (some blankEntry)).setIfInBounds 7 (some trapEntry))
      = some { detail := 1, position := 7, address := some 4096 } := by decide +kernel

/-- R121: a status word with READY and SUSPENDED is a suspension. -/
theorem test_suspension_arrives :
    (after (.memoryTransactionEnds (Vector.replicate 16 0x00C0))
        { with0 (.suspending 5 327680 .part false (some (fields 1 8))) with
          bus := some (.service .dev0 (.statusRead false) 327680) }).tracker.dev0.record
      = .suspended 5 327680 .part false (some (fields 1 8)) := by decide +kernel

/-- R169, R168: an END record has length 0 and its check value; anything else in its length is LENGTH. -/
theorem test_end_record :
    recordFailure ready ([0x0500, 0x0000] ++ [crcWords [0x0500, 0x0000]]) = none := by decide +kernel

theorem test_record_with_a_bad_check : recordFailure ready [0x0500, 0x0000, 0x0000] = some .check := by decide +kernel

/-! ### Witnesses: for each statement with hypotheses, states and operands that meet them, at the boundaries of each clause -/

/-- A link free, the loader idle, no commit and no fill. -/
theorem witness_free_and_idle : LinkFree ready ∧ LoaderIdle ready ∧ ready.commit = .idle ∧ ready.fill.job = none := by
  decide

/-- A free link while the loader runs. -/
theorem witness_free_and_loading : LinkFree State.reset ∧ State.reset.loader.state ≠ .idle := by decide

theorem witness_StepRunsTheFrontCommand : ready.pending = [] := rfl

theorem witness_RequestFrameDecodesToItsRequest :
    (Instr.commit 1 [1]).wellFormed = true ∧ (Instr.badCommand 0xFF 1 []).wellFormed = true
      ∧ (encodeRequest (.commit 1 [1])).isSome = true ∧ ([] : List Byte).length ≤ 1024
      ∧ [0, 0] ≠ be16 (crcBytes (0x01 :: 0x05 :: be16 0 ++ [])).toNat := by decide +kernel

theorem witness_StageEntryStagesTheFieldsGiven :
    LinkFree ready ∧ LoaderIdle ready ∧ ready.commit = .idle ∧ 63 ≤ 63 ∧ 2097151 ≤ 2097151 ∧ 1 ≤ 256 ∧ 256 ≤ 256 ∧ 2047 ≤ 2047
      ∧ (64 :: List.replicate 15 (0 : Byte)).length = 16 ∧ 63 < argField (64 :: List.replicate 15 0) 0 1
      ∧ 3 < argField (0 :: 4 :: List.replicate 14 0) 1 1
      ∧ 2097151 < argField (0 :: 3 :: 0x00 :: 0x20 :: List.replicate 12 0) 2 4
      ∧ 256 < argField (0 :: 3 :: 0 :: 0 :: 0 :: 0 :: 1 :: 1 :: List.replicate 8 0) 6 2 := by decide +kernel

/-- An entry record's bytes: line 4,096, one line, and the mode, the mask and the four fields after it. -/
def entryArgs (mode mask slot follow check word : Nat) : List Byte :=
  be8 0 ++ be8 mode ++ be32 4096 ++ be16 1 ++ be8 mask ++ be16 slot ++ be8 follow ++ be16 check ++ be16 word

/-- The value of a field of 16 bytes that the length check lets through. -/
def entryField (args : List Byte) (i n : Nat) : Option Nat := if args.length = 16 then some (argField args i n) else none

/-- Each check of STAGE_ENTRY at the value next to its range: a field missing, one too many, a slot, a follow value, a mask
above the four bits, and a field given with its bit clear. -/
theorem witness_StageEntryStagesTheFieldsGiven_forms :
    entryField (entryArgs 1 2 0 0 0 0) 8 1 = some 2 ∧ entryField (entryArgs 1 1 0 0 0 0) 8 1 = some 1
      ∧ entryField (entryArgs 2 0 0 0 0 0) 8 1 = some 0 ∧ entryField (entryArgs 1 11 0 0 0 0) 8 1 = some 11
      ∧ entryField (entryArgs 2 9 0 0 0 0) 8 1 = some 9 ∧ entryField (entryArgs 3 1 0 0 0 0) 8 1 = some 1
      ∧ entryField (entryArgs 1 3 2048 0 0 0) 9 2 = some 2048 ∧ entryField (entryArgs 1 3 2047 2 0 0) 11 1 = some 2
      ∧ entryField (entryArgs 3 16 0 0 0 0) 8 1 = some 16 ∧ entryField (entryArgs 3 0 1 0 0 0) 9 2 = some 1
      ∧ entryField (entryArgs 3 0 0 1 0 0) 11 1 = some 1 ∧ entryField (entryArgs 3 0 0 0 1 0) 12 2 = some 1
      ∧ entryField (entryArgs 3 0 0 0 0 1) 14 2 = some 1 := by decide +kernel

def committing : State := { ready with commit := .pendingMark (inFlight (.atMark 4096 1)) 0 }

theorem witness_StagedEditsAndCommitAreBusyInFlight :
    LinkFree committing ∧ LoaderIdle committing ∧ committing.commit ≠ .idle
      ∧ (List.replicate 16 (0 : Byte)).length = 16 ∧ (EntryArgs.ofBytes (List.replicate 16 0)).wellFormed = true
      ∧ ([1] : List Byte).length = 1 ∧ ([2, 0, 0, 0, 0, 0, 1] : List Byte).length = 7 := by decide +kernel

theorem witness_ClearStagedEmptiesPositions :
    LinkFree ready ∧ LoaderIdle ready ∧ ready.commit = .idle ∧ (63 : Byte).toNat ≤ 63
      ∧ stagedAt ready.staged (63 : Byte).toNat = none ∧ 63 < (64 : Byte).toNat ∧ (64 : Byte) ≠ 0xFF
      ∧ 63 < (0xFE : Byte).toNat ∧ ([] : List Byte).length ≠ 1 ∧ ([] : List Byte).length ≤ 1024 := by decide +kernel

/-- A bank that passes with nothing to verify, one with a check value, and one whose entry leaves the address space. -/
theorem witness_CommitIsValidatedAtItsAcceptance :
    LinkFree (withStaged blankEntry) ∧ LoaderIdle (withStaged blankEntry) ∧ (withStaged blankEntry).commit = .idle
      ∧ (withStaged blankEntry).fill.job = none ∧ readInProgress (withStaged blankEntry) = false
      ∧ validate true (withStaged blankEntry).staged = none ∧ nextChecked (withStaged blankEntry).staged 0 = none
      ∧ validate true (withStaged (replaceEntry 4096 5 false (some 1))).staged = none
      ∧ nextChecked (withStaged (replaceEntry 4096 5 false (some 1))).staged 0 = some 3
      ∧ validate true (withStaged (replaceEntry 2097152 5 false none)).staged
          = some { detail := 4, position := 3, address := some 2097152 }
      ∧ [2, 0x00, 0x1F, 0xFF, 0xFF, 0xFF, 0xFF] = be8 2 ++ be32 2097151 ++ be16 65535
      ∧ ready.straps.twoDevices = true := by decide +kernel

/-- A store read in progress makes an IMMEDIATE commit wait. -/
def reading : State := { ready with host := { ready.host with
  transaction := .read { addr := 65536, count := 1, line := 4096, generation := 0,
                         cls := .hit 3 (.replace 5 false none) 0, stage := .store } } }

theorem witness_CommitIsValidatedAtItsAcceptance_in_progress :
    LinkFree reading ∧ LoaderIdle reading ∧ reading.commit = .idle ∧ reading.fill.job = none
      ∧ readInProgress reading = true ∧ validate true reading.staged = none ∧ nextChecked reading.staged 0 = none := by
  decide +kernel

theorem witness_CancelCommitEndsTheCommit : LinkFree committing ∧ LoaderIdle committing ∧ committing.commit ≠ .idle := by
  decide

theorem witness_ReadEntryReportsThePosition :
    LinkFree (withActive blankEntry) ∧ LoaderIdle (withActive blankEntry) ∧ 1 < (2 : Byte).toNat ∧ 63 < (64 : Byte).toNat
      ∧ (3 : Byte).toNat ≤ 63 ∧ activeAt (withActive blankEntry).active 3 = some { entry := blankEntry, hitCount := 0 }
      ∧ activeAt (withActive blankEntry).active 63 = none ∧ stagedAt (withActive blankEntry).staged 63 = none
      ∧ stagedAt (withStaged blankEntry).staged 3 = some blankEntry := by decide +kernel

theorem witness_SetStorePointerMovesThePointer :
    LinkFree ready ∧ LoaderIdle ready ∧ (0x07 : Byte).toNat * 256 + (0xFF : Byte).toNat ≤ 2047 ∧ (15 : Byte).toNat ≤ 15
      ∧ 2047 < (0x08 : Byte).toNat * 256 + (0x00 : Byte).toNat ∧ 15 < (16 : Byte).toNat := by decide

def endOfStore : State := { ready with ptr := { slot := 2048, offset := 0 } }

theorem witness_StoreRequestsGoIntoProcessing :
    LinkFree ready ∧ LoaderIdle ready ∧ 1 ≤ (List.replicate 256 (0 : Word)).length
      ∧ (List.replicate 256 (0 : Word)).length ≤ 256 ∧ ready.ptr.slot ≠ 2048
      ∧ LinkFree endOfStore ∧ LoaderIdle endOfStore ∧ endOfStore.ptr.slot = 2048
      ∧ 1 ≤ 256 ∧ 256 ≤ 256 ∧ 256 < 257 ∧ 65535 < 65536 ∧ (List.replicate 511 (0 : Word)).length ≤ 511
      ∧ (256 : Nat) ≠ (List.replicate 255 (0 : Word)).length := by decide +kernel

def job (stage : FillStage) : FillJob :=
  { firstSlot := 0, firstLine := 4096, lineCount := 1, target := none, check := 0xFFFF, stage := stage, abort := none }
def filling (stage : FillStage) : State := { ready with fill := { job := some (job stage), progress := 0 } }

/-- A fill running while no commit is in flight. -/
theorem witness_CommitIsValidatedAtItsAcceptance_filling :
    LinkFree (filling .reading) ∧ LoaderIdle (filling .reading) ∧ (filling .reading).commit = .idle
      ∧ (filling .reading).fill.job = some (job .reading) ∧ ([2] : List Byte).length = 1
      ∧ (List.replicate 7 (0 : Byte)).length = 7 := by decide

/-- COMMIT's arguments at the values next to their ranges: a mode that wants a mark, one that takes none, the mark after the
last line, an expiry of 0, and the first line of a device that is absent. -/
theorem witness_CommitIsValidatedAtItsAcceptance_arguments :
    argField [2] 0 1 ≠ 1 ∧ argField [0] 0 1 ≠ 1 ∧ argField (be8 1 ++ be32 0 ++ be16 1) 0 1 ≠ 2
      ∧ (be8 2 ++ be32 2097152 ++ be16 1).length = 7 ∧ 2097151 < argField (be8 2 ++ be32 2097152 ++ be16 1) 1 4
      ∧ argField (be8 2 ++ be32 0 ++ be16 0) 5 2 = 0 ∧ 1048576 ≤ argField (be8 2 ++ be32 1048576 ++ be16 1) 1 4
      ∧ (let s : State := { ready with straps := { twoDevices := false, bootHigh := false } }
        s.straps.twoDevices = false ∧ LinkFree s ∧ LoaderIdle s ∧ s.commit = .idle ∧ s.fill.job = none) := by decide +kernel

/-- The part with a REPLACE entry in the last STAGED position. -/
def stagedLast : State := { ready with staged := ready.staged.setIfInBounds 63 (some (replaceEntry 4096 5 false none)) }

/-- The last slot and the last line; a target in the last position, one that is absent and one that is not REPLACE; a fill
between lines and one in a line; a live slot; a protected slot. -/
theorem witness_FillStartsAndAborts :
    LinkFree ready ∧ LoaderIdle ready ∧ 2047 + 1 ≤ 2048 ∧ 2097151 + 1 ≤ 2097152 ∧ 1048576 ≤ 2097151
      ∧ ready.straps.twoDevices = true ∧ ready.fill.job = none
      ∧ live ready 2047 = false ∧ stagedProtected ready 2047 = false
      ∧ LinkFree stagedLast ∧ LoaderIdle stagedLast ∧ stagedLast.fill.job = none
      ∧ live stagedLast 2047 = false ∧ stagedProtected stagedLast 2047 = false
      ∧ stagedAt stagedLast.staged 63 = some (replaceEntry 4096 5 false none)
      ∧ stagedAt ready.staged 63 = none ∧ stagedAt (withStaged blankEntry).staged 3 = some blankEntry
      ∧ (filling .waiting).fill.job = some (job .waiting) ∧ (job .waiting).abort = none ∧ (job .reading).stage ≠ .waiting
      ∧ live (withActive (replaceEntry 4096 2047 false none)) 2047 = true
      ∧ live (withStaged (replaceEntry 4096 2047 false none)) 2047 = false
      ∧ stagedProtected { withStaged (replaceEntry 4096 2047 false none) with commit := committing.commit } 2047 = true := by
  decide +kernel

/-- FILL's arguments at the values next to their ranges: the slot, the line, the count, the target, the end of the slots and
of the lines, lines of both devices, and the first line of a device that is absent; nine bytes while the engine runs. -/
theorem witness_FillStartsAndAborts_arguments :
    let args (slot line n : Nat) : List Byte := be16 slot ++ be32 line ++ be16 n
    (args 2048 0 1).length = 8 ∧ argField (args 2048 0 1) 0 2 = 2048 ∧ argField (args 0 2097152 1) 2 4 = 2097152
      ∧ argField (args 0 0 0) 6 2 = 0 ∧ argField (args 0 0 257) 6 2 = 257
      ∧ (args 0 0 1 ++ be8 64).length = 9 ∧ argField (args 0 0 1 ++ be8 64) 8 1 = 64
      ∧ argField (args 2047 0 2) 0 2 + argField (args 2047 0 2) 6 2 = 2049
      ∧ argField (args 0 2097151 2) 2 4 + argField (args 0 2097151 2) 6 2 = 2097153
      ∧ argField (args 0 1048575 2) 2 4 = 1048575 ∧ argField (args 0 1048575 2) 6 2 = 2
      ∧ argField (args 0 1048576 1) 2 4 = 1048576
      ∧ LinkFree (filling .reading) ∧ (filling .reading).fill.job = some (job .reading) := by decide +kernel

/-- A fill told to stop by ABORT_FILL and one told to stop by a soft reset, its line in flight. -/
theorem witness_FillStartsAndAborts_told :
    let s (cause : AbortCause) : State :=
      { ready with fill := { job := some { job .reading with abort := some cause }, progress := 0 } }
    ∀ cause, LinkFree (s cause) ∧ LoaderIdle (s cause)
      ∧ (s cause).fill.job = some { job .reading with abort := some cause } :=
  fun _ => ⟨⟨rfl, rfl, rfl⟩, rfl, rfl⟩

theorem witness_ReadTrackerReportsTheRecord :
    LinkFree (with0 (.busyErase 5 327680 (some (fields 1 8)))) ∧ LoaderIdle (with0 (.busyErase 5 327680 (some (fields 1 8))))
      ∧ (with0 (.busyErase 5 327680 (some (fields 1 8)))).tracker.dev0.record = .busyErase 5 327680 (some (fields 1 8))
      ∧ 1 < (2 : Byte).toNat := by decide

theorem witness_SetLockSkipsFrozenSectors :
    LinkFree ready ∧ LoaderIdle ready ∧ 511 ≤ 511 ∧ 1 ≤ 1 ∧ 1 ≤ 512 ∧ 511 + 1 ≤ 512 ∧ 512 < 511 + 2 := by decide

theorem witness_SetPolicySetsAllEightFields :
    LinkFree ready ∧ LoaderIdle ready ∧ Policy.default.budget < 256 ∧ Policy.default.resumeIdle < 65536
      ∧ Policy.default.minRun < 65536 ∧ Policy.default.holdMax < 65536 ∧ Policy.default.stallTimeout < 65536
      ∧ Policy.default.budget ≤ 15 ∧ 10 ≤ Policy.default.resumeIdle ∧ Policy.default.resumeIdle ≤ 1000
      ∧ Policy.default.minRun ≤ 5000 ∧ 100 ≤ Policy.default.holdMax ∧ Policy.default.holdMax ≤ 10000
      ∧ 100 ≤ Policy.default.stallTimeout ∧ Policy.default.stallTimeout ≤ 50000
      ∧ ¬ ({ Policy.default with budget := 16 } : Policy).budget ≤ 15 ∧ 1 < (2 : Byte).toNat := by decide

theorem witness_ReadPolicyReportsThePolicy :
    (with0 (.busyErase 5 327680 (some (fields 1 8)))).tracker.dev0.record.erase = some (fields 1 8)
      ∧ ({ ready with tracker := { dev0 := tracked .array, dev1 := tracked (.suspended 256 16777216 .part false (some (fields 1 8))) } }
          : State).tracker.dev1.record.erase = some (fields 1 8) := by decide

theorem witness_PopNoticesReturnsTheOldest :
    LinkFree State.reset ∧ 1 ≤ (32 : Byte).toNat ∧ (32 : Byte).toNat ≤ 32 ∧ 32 < (33 : Byte).toNat := by decide

theorem witness_ReadTalliesReportsTheTallies : ([0] : List Byte) ≠ [] ∧ ([0] : List Byte).length ≤ 1024 := by decide

theorem witness_SetNoticeEnableSetsEveryFlag :
    (2 :: List.replicate 17 (0 : Byte)).length = 18 ∧ ∃ b ∈ 2 :: List.replicate 17 (0 : Byte), b ≠ 0 ∧ b ≠ 1 := by decide

theorem witness_SoftResetAppliesItsFlagsInOrder : (15 : Byte).toNat ≤ 15 ∧ 15 < (16 : Byte).toNat := by decide

def processing : Processing := { frame := goodFrame 0x22 1 [0, 1], superseded := false, work := .read 1 [] }
def readingStore : State := { ready with link := { ready.link with processing := some processing } }

/-- A commit in flight; a fill between lines and in a line; device 0 in the boot sector's STATUS, with its service slot free
and taken, in another sector's STATUS, in the boot sector's REFUSED, in a host's suspension and in none of these; the loader
running; a store request in processing. -/
theorem witness_SoftResetRowsHaveTheirEffect :
    LoaderIdle committing ∧ committing.link.processing = none ∧ committing.commit ≠ .idle
      ∧ LoaderIdle (filling .waiting) ∧ (filling .waiting).fill.job = some (job .waiting)
      ∧ (filling .reading).fill.job = some (job .reading) ∧ (job .reading).stage ≠ .waiting
      ∧ ready.loader.bootSector = 0 ∧ (with0 (.status 0)).tracker.dev0.record = .status 0
      ∧ (with0 (.status 0)).service.dev0 = none ∧ (with0 (.status 0)).bus = none ∧ (1 : Nat) ≠ ready.loader.bootSector
      ∧ (with0 (.refused 0)).tracker.dev0.record = .refused 0
      ∧ (with0 (.suspended 5 327680 .host false none)).tracker.dev0.record = .suspended 5 327680 .host false none
      ∧ ({ with0 (.status 0) with service := { dev0 := some { work := .arrayWrite true, addr := 0, behind := 0 }, dev1 := none } }
          : State).service.dev0 = some { work := .arrayWrite true, addr := 0, behind := 0 }
      ∧ ready.tracker.dev0.record = .array ∧ State.reset.loader.state ≠ .idle
      ∧ readingStore.link.processing = some processing := by decide

theorem witness_BadFramesAndCommandsAreAnswered :
    LinkFree ready ∧ (Instr.badCommand 0xFF 1 []).wellFormed = true := by decide

def lastWrite (superseded : Bool) : Processing :=
  { frame := goodFrame 0x21 1 [0, 1, 0x12, 0x34], superseded := superseded, work := .write [0x1234] 0 }
/-- A WRITE_STORE with its last word still to write, `f` waiting and `q` pending. -/
def writingLast (superseded : Bool) (f : Option Frame) (q : Option Response) : State :=
  { ready with link := { ready.link with processing := some (lastWrite superseded), waiting := f, pendingResponse := q } }

/-- A start byte with a frame waiting; a byte time in DISCARDING with a response in the slot, at its first and at its last
byte; the last byte of the shortest response, from its first and from its second byte; a read in processing; the last word of a
WRITE_STORE at the port with nothing behind it, with a pending response and with a frame waiting. -/
theorem witness_LinkRowsMoveTheLink :
    ready.link.receiver = .hunt ∧ ready.link.waiting = none
      ∧ ({ ready with link := { ready.link with waiting := some (goodFrame 1 1 []), processing := some processing } }
          : State).link.waiting = some (goodFrame 1 1 [])
      ∧ readingStore.link.processing = some processing ∧ Receiver.receiving ≠ .init
      ∧ (ready.answered 5 .ok []).link.slot = some { response := { tag := 5, status := .ok, payload := [] }, position := 0 }
      ∧ 0 + 6 < (Response.bytes { tag := 5, status := .ok, payload := [] }).length
      ∧ 1 + 5 < (Response.bytes { tag := 5, status := .ok, payload := [] }).length
      ∧ ({ ready.answered 5 .ok [] with link := { (ready.answered 5 .ok []).link with receiver := .discarding } }
          : State).link.slot = some { response := { tag := 5, status := .ok, payload := [] }, position := 0 }
      ∧ ¬ 6 + 1 < (Response.bytes { tag := 5, status := .ok, payload := [] }).length
      ∧ LoaderIdle (writingLast false none none)
      ∧ portChoice (writingLast false none none) = some (.management (lastWrite false))
      ∧ portChoice (writingLast true none (some { tag := 2, status := .badFrame, payload := [] }))
          = some (.management (lastWrite true))
      ∧ (lastWrite true).work = .write [0x1234] 0 ∧ live ready ready.ptr.slot = false
      ∧ stagedProtected ready ready.ptr.slot = false ∧ ready.link.pendingResponse = none
      ∧ (Instr.getStatus 2 []).wellFormed = true ∧ (Instr.getStatus 2 []).request = some (codeGetStatus, 2, [])
      ∧ (writingLast true (some (goodFrame codeGetStatus 2 [])) none).link.waiting = some (goodFrame codeGetStatus 2 [])
      ∧ (lastWrite true).superseded = true ∧ ready.link.frameBuffer = none ∧ ready.link.slot = none := by decide +kernel

/-- A request in processing as frames of other requests arrive, one of them at the longest its arguments can be. -/
theorem witness_LinkRowsMoveTheLink_waits :
    let long : List Byte := be16 512 ++ List.replicate 1022 0
    readingStore.link.receiver = .hunt ∧ readingStore.link.waiting = none ∧ readingStore.link.processing = some processing
      ∧ (Instr.writeStore 3 long).wellFormed = true ∧ long.length = 1024
      ∧ (Instr.writeStore 3 long).request = some (codeWriteStore, 3, long)
      ∧ (Instr.softReset 3 [0]).wellFormed = true := by decide +kernel

theorem witness_OtherRequestsAreNotReadyWhileTheLoaderRuns :
    (Instr.commit 1 [1]).wellFormed = true ∧ (Instr.commit 1 [1]).request = some (0x14, 1, [1])
      ∧ (∀ c t a, Instr.commit 1 [1] ≠ .badCommand c t a) ∧ (∀ t a, Instr.commit 1 [1] ≠ .getIdentity t a)
      ∧ (∀ t a, Instr.commit 1 [1] ≠ .getStatus t a) ∧ (∀ t a, Instr.commit 1 [1] ≠ .popNotices t a)
      ∧ LinkFree State.reset ∧ State.reset.loader.state ≠ .idle := by
  refine ⟨by decide, rfl, ?_, ?_, ?_, ?_, by decide, by decide⟩ <;> intros <;> exact fun h => nomatch h

/-- The two lengths beside each of COMMIT's. -/
theorem witness_WrongArgumentLengthIsBadArg :
    (Instr.commit 1 [1, 2]).wellFormed = true ∧ (Instr.commit 1 [1, 2]).request = some (0x14, 1, [1, 2])
      ∧ ([1, 2] : List Byte).length ≠ 1 ∧ ([1, 2] : List Byte).length ≠ 7
      ∧ (List.replicate 8 (0 : Byte)).length ≠ 7 ∧ ([0] : List Byte).length < 2 ∧ ([0, 1, 2] : List Byte).length % 2 = 1 := by
  decide

/-- HRST_N asserted already, and not; no commit, a commit of each origin, the loader's with and without the dropped read it
waits for; a read at the port and one forwarded, with a SUSPEND raised for it; every record, STATUS and SUSPENDED with and
without a write of the cleanup write's word on the bus. -/
theorem witness_HostResetIsOneEvent :
    let loading (c : Commit) : State := { reading with
      commit := c, loader := { state := .committing .reload 127, bootSector := 0 } }
    let f : InFlight := { mode := .immediate, origin := .loader }
    let onBus (r : Record) (w : ServiceWork) : State := { with0 r with bus := some (.service .dev0 w 327680) }
    ({ ready with host := { ready.host with resetAsserted := true } } : State).host.resetAsserted = true
      ∧ committing.host.resetAsserted = false ∧ ready.commit = .idle
      ∧ committing.commit.inFlight = some (inFlight (.atMark 4096 1)) ∧ (inFlight (.atMark 4096 1)).origin = .management
      ∧ (loading (.pendingBoundary f)).commit = .pendingBoundary f ∧ f.origin = .loader
      ∧ (loading (.pendingBoundary f)).loader.state = .committing .reload 127
      ∧ (∀ origin n, reading.loader.state ≠ .committing origin n)
      ∧ (loading (.verifying f { position := 3, index := 0, check := 0xFFFF })).commit ≠ .pendingBoundary f
      ∧ reading.host.transaction = .read { addr := 65536, count := 1, line := 4096, generation := 0,
                                           cls := .hit 3 (.replace 5 false none) 0, stage := .store }
      ∧ reading.host.dropped = none ∧ (∀ r, ready.host.transaction ≠ .read r)
      ∧ (with0 (.heldProgram 5)).tracker.dev0.record = .heldProgram 5
      ∧ (with0 (.suspending 5 327680 .part false none)).tracker.dev0.record = .suspending 5 327680 .part false none
      ∧ (∀ c a, (with0 (.status 5)).bus ≠ some (.service .dev0 (.arrayWrite c) a))
      ∧ (onBus (.status 5) (.arrayWrite false)).bus = some (.service .dev0 (.arrayWrite false) 327680)
      ∧ (∀ a, (with0 (.suspended 5 327680 .host false none)).bus ≠ some (.service .dev0 (.resume .cleanup) a))
      ∧ (onBus (.suspended 5 327680 .host false none) (.resume .cleanup)).bus
          = some (.service .dev0 (.resume .cleanup) 327680) :=
  ⟨rfl, rfl, rfl, rfl, rfl, rfl, rfl, rfl, fun _ _ h => (nomatch h), fun h => (nomatch h), rfl, rfl, fun _ h => (nomatch h),
    rfl, rfl, fun _ _ h => (nomatch h), rfl, fun _ h => (nomatch h), rfl⟩

def waiting (r : Record) : State := { with0 r with
  host := { ready.host with loadHold := true }
  loader := { state := .waiting .reload 0, bootSector := 0 } }

theorem quiet_of_idle {s : State} (h : s.loader.state = .idle) : LoaderQuiet s := fun _ g => nomatch h.symm.trans g

theorem passive_of_idle {s : State} (h : s.loader.state = .idle) : LoaderPassive s := fun _ g => nomatch h.symm.trans g

/-- The power-on load as it waits; a reload that waits with device 0 in ARRAY; HRST_N asserted. -/
theorem witness_HostFaceIgnoresAndHolds :
    LoaderQuiet State.reset ∧ State.reset.loader.state ≠ .idle ∧ State.reset.host.loadHold = true
      ∧ State.reset.host.resetAsserted = false ∧ State.reset.host.transaction = .none
      ∧ (waiting .array).loader.state = .waiting .reload 0 ∧ (waiting .array).tracker.dev0.record = .array
      ∧ (waiting .array).host.loadHold = true ∧ (waiting .array).host.resetAsserted = false
      ∧ (waiting .array).host.transaction = .none
      ∧ ({ ready with host := { ready.host with resetAsserted := true } } : State).host.resetAsserted = true :=
  ⟨fun _ h => (nomatch h), by decide, rfl, rfl, rfl, rfl, rfl, rfl, rfl, rfl, rfl⟩

/-- Each kind of burst that is answered at once; a completion that meets no commit, a management commit at its boundary or
its mark, and the loader's. -/
theorem witness_BurstsAnsweredAtOnce :
    HostReady (withActive blankEntry) ∧ (withActive blankEntry).commit = .idle
      ∧ installed (withActive blankEntry) .dev0 = true
      ∧ (withActive blankEntry).tracker.dev0.record.commandSector ≠ some (sectorOf (burstBase 65551 .sixteen))
      ∧ lookup (withActive blankEntry).active (lineOf (burstBase 65551 .sixteen)) = some (3, blankEntry)
      ∧ activeAt (withActive blankEntry).active 3 = some { entry := blankEntry, hitCount := 0 }
      ∧ (with0 (.refused 5)).tracker.dev0.record = .refused (sectorOf (burstBase 327695 .one))
      ∧ ({ ready with straps := { twoDevices := false, bootHigh := false } } : State).straps.twoDevices = false
      ∧ 16777216 ≤ burstBase 16777216 .sixteen
      ∧ ({ withActive blankEntry with commit := .pendingBoundary (inFlight .immediate) } : State).commit
          = .pendingBoundary (inFlight .immediate)
      ∧ ({ withActive blankEntry with commit := committing.commit } : State).commit
          = .pendingMark (inFlight (.atMark 4096 1)) 0
      ∧ lineOf (burstBase 65551 .sixteen) = 4096 ∧ lineOf (burstBase 327695 .one) ≠ 4096
      ∧ ({ ready with loader := { state := .committing .reload 1, bootSector := 0 } } : State).loader.state
          = .committing .reload 1 := by decide +kernel

theorem witness_BurstsTakenForThePortOrTheHostPath :
    HostReady (withActive (replaceEntry 4096 5 false none)) ∧ installed (withActive (replaceEntry 4096 5 false none)) .dev0 = true
      ∧ lookup (withActive (replaceEntry 4096 5 false none)).active (lineOf (burstBase 65551 .one))
          = some (3, replaceEntry 4096 5 false none)
      ∧ HostReady (with0 (.status 5)) ∧ (with0 (.status 5)).tracker.dev0.record.commandSector
          = some (sectorOf (burstBase 327680 .four))
      ∧ (with0 (.status 5)).tracker.dev0.record.commandSector ≠ some (sectorOf (burstBase 327679 .four))
      ∧ lookup (with0 (.status 5)).active (lineOf (burstBase 327679 .four)) = none
      ∧ (with0 (.status 5)).controller.dev0.call = none
      ∧ lookup (withActive trapEntry).active (lineOf (burstBase 65536 .one)) = some (3, trapEntry) := by decide +kernel

/-- A program with either policy, its pair granted and still waiting; a probe; an erase with a suspension available, before
min_run, at its end, and with the budget spent, reported or not, and one with auto_suspend off or disabled; a suspension on its
way; a suspension with no resume called for, and with one called for by each timer. -/
theorem witness_MissDecisionOfABusyDevice :
    let pairOf (r : Record) (w : Word) : State := { with0 r with hostPath := [.pair 327680 w 327680 0] }
    HostReady (with0 (.busyProgram 5 327680 0)) ∧ installed (with0 (.busyProgram 5 327680 0)) .dev0 = true
      ∧ lookup (with0 (.busyProgram 5 327680 0)).active (lineOf (burstBase 0 .one)) = none
      ∧ pairWaits (with0 (.busyProgram 5 327680 0)) .dev0 = false ∧ (5 : Nat) ≠ sectorOf (burstBase 0 .one)
      ∧ pairWaits (pairOf (.busyProgram 5 327680 0) 0x3C11) .dev0 = true
      ∧ pairWaits (pairOf (.busyErase 5 327680 none) 0x3C22) .dev0 = true
      ∧ HostReady (pairOf (.busyErase 5 327680 none) 0x3C22)
      ∧ (with0 .probe).tracker.dev0.record = .probe ∧ HostReady (with0 .probe)
      ∧ Policy.default.missPolicy = .stall ∧ ({ Policy.default with missPolicy := .pass } : Policy).missPolicy = .pass
      ∧ Policy.default.autoSuspend = true ∧ (fields 7 8).disabled = false ∧ (fields 7 8).count < (fields 7 8).snapshot
      ∧ (fields 8 8).count = (fields 8 8).snapshot ∧ 0 + Policy.default.minRun ≤ 200 ∧ 199 < 0 + Policy.default.minRun
      ∧ serviceFree (with0 (.busyErase 5 327680 (some (fields 7 8)))) .dev0 = true
      ∧ Controller.lapsed.budgetReported = false
      ∧ ({ Controller.lapsed with budgetReported := true } : Controller).budgetReported = true
      ∧ ({ Policy.default with autoSuspend := false } : Policy).autoSuspend = false
      ∧ ({ fields 7 8 with disabled := true } : EraseFields).disabled = true
      ∧ (with0 (.suspending 5 327680 .part false none)).tracker.dev0.record = .suspending 5 327680 .part false none
      ∧ HostReady (with0 (.suspended 5 327680 .part false none)) ∧ Controller.lapsed.call = none
      ∧ ({ Controller.lapsed with call := some .idle } : Controller).call = some .idle
      ∧ ({ Controller.lapsed with call := some .holdMax } : Controller).call = some .holdMax := by decide +kernel

/-- A TRAP entry in the way of a device in each of the states. -/
theorem witness_MissDecisionOfABusyDevice_trapped :
    let s (r : Record) : State := { with0 r with active := (withActive trapEntry).active }
    HostReady (s (.busyProgram 5 327680 0)) ∧ HostReady (s (.busyErase 5 327680 (some (fields 7 8)))) ∧ HostReady (s .probe)
      ∧ HostReady (s (.suspending 5 327680 .part false none)) ∧ HostReady (s (.suspended 5 327680 .part false none))
      ∧ installed (s .probe) (devOf (burstBase 65551 .sixteen)) = true
      ∧ lookup (s .probe).active (lineOf (burstBase 65551 .sixteen)) = some (3, trapEntry) ∧ trapEntry.mode = .trap
      ∧ (s (.busyProgram 5 327680 0)).tracker.dev0.record.commandSector ≠ some (sectorOf (burstBase 65551 .sixteen))
      ∧ lookup (s .probe).active (lineOf (burstBase 65552 .sixteen)) = none := by decide +kernel

theorem witness_WritesInArrayAndStatus :
    HostReady (with0 (.status 5)) ∧ LoaderIdle (with0 (.status 5)) ∧ TrackerSettled (with0 (.status 5)) .dev0
      ∧ hostWaiting (with0 (.status 5)) .dev0 = 0 ∧ (with0 (.status 5)).tracker.dev0.record = .status 5
      ∧ TrackerSettled ready .dev0 ∧ ready.tracker.dev0.record = .array
      ∧ HostReady (with0 (.refused 5)) ∧ TrackerSettled (with0 (.refused 5)) .dev0
      ∧ hostWaiting (with0 (.refused 5)) .dev0 = 0 ∧ (with0 (.refused 5)).tracker.dev0.record = .refused 5
      ∧ (0x3CEE : Word) ≠ 0x3C11 ∧ (0x3CEE : Word) ≠ 0x3C22 ∧ (0x3CEE : Word) ≠ 0x3C00 ∧ (0x3CEE : Word) ≠ 0x3C55
      ∧ (0x3CEE : Word) ≠ 0x3C66 := by decide +kernel

/-- Device 0 with a status read granted for its record. -/
def readGranted (r : Record) (active : ActiveBank) : State := { ready with
  active := active
  tracker := { dev0 := { tracked r with armed := true, reading := true }, dev1 := tracked .array }
  bus := some (.service .dev0 (.statusRead false) 65536) }

/-- Device 0 with a cleanup write raised for its record, and with one granted. -/
def cleanupRaised (r : Record) (w : ServiceWork) : State :=
  { with0 r with service := { dev0 := some { work := w, addr := 327680, behind := 0 }, dev1 := none } }
def cleanupGranted (r : Record) (w : ServiceWork) : State := { with0 r with bus := some (.service .dev0 w 327680) }

/-- A write kept for a status read, for a run kept back, for a cleanup write that waits and for one granted, and for a write
of the host that waits; each end that takes it. -/
theorem witness_WritesInArrayAndStatus_kept :
    HostReady (readGranted (.busyErase 5 327680 none) ready.active) ∧ LoaderIdle (readGranted (.busyErase 5 327680 none) ready.active)
      ∧ (readGranted (.busyErase 5 327680 none) ready.active).tracker.dev0.kept = []
      ∧ (readGranted (.busyErase 5 327680 none) ready.active).tracker.dev0.reading = true
      ∧ (readGranted (.busyErase 5 327680 none) ready.active).bus = some (.service .dev0 (.statusRead false) 65536)
      ∧ (readGranted (.busyErase 5 327680 none) ready.active).service.dev0 = none
      ∧ (readGranted (.busyErase 5 327680 none) ready.active).tracker.dev0.keptRun = none
      ∧ ({ tracked (.busyErase 5 327680 none) with keptRun := some (.erase .dev0 [5] 0) } : Tracker).keptRun
          = some (.erase .dev0 [5] 0)
      ∧ (cleanupRaised (.suspended 5 327680 .host false none) (.resume .cleanup)).service.dev0
          = some { work := .resume .cleanup, addr := 327680, behind := 0 }
      ∧ HostReady (cleanupGranted (.status 5) (.arrayWrite true)) ∧ LoaderIdle (cleanupGranted (.status 5) (.arrayWrite true))
      ∧ (cleanupGranted (.status 5) (.arrayWrite true)).tracker.dev0.reading = false
      ∧ ServiceWork.arrayWrite true ≠ .statusRead false
      ∧ (cleanupGranted (.suspended 5 327680 .host false none) (.resume .cleanup)).bus
          = some (.service .dev0 (.resume .cleanup) 327680)
      ∧ (let s : State := { ready with hostPath := [.write 65536 0x3C00] }
        hostWaiting s .dev0 ≠ 0 ∧ stateUnsettled s .dev0 = false ∧ s.tracker.dev0.record = .array ∧ HostReady s ∧ s.bus = none
          ∧ s.service.dev0 = none ∧ s.service.dev1 = none ∧ devOf 65536 = .dev0) := by decide +kernel

/-- A held program and a held erase in an OPEN and in a LOCKED sector, the erase confirmed at the sector's last word; a
program broken at the next word, an erase by another word and by a confirmation in the next sector. -/
theorem witness_CompletedSequencesAskTheGuard :
    HostReady (with0 (.heldProgram 327680)) ∧ LoaderIdle (with0 (.heldProgram 327680))
      ∧ TrackerSettled (with0 (.heldProgram 327680)) .dev0 ∧ hostWaiting (with0 (.heldProgram 327680)) .dev0 = 0
      ∧ lockAt (with0 (.heldProgram 327680)) (sectorOf 327680) = .opened
      ∧ lockAt { with0 (.heldProgram 327680) with locks := ready.locks.setIfInBounds 5 .locked } (sectorOf 327680) ≠ .opened
      ∧ HostReady (with0 (.heldErase 327680)) ∧ TrackerSettled (with0 (.heldErase 327680)) .dev0
      ∧ hostWaiting (with0 (.heldErase 327680)) .dev0 = 0
      ∧ (with0 (.heldErase 327680)).tracker.dev0.record = .heldErase 327680 ∧ sectorOf 393215 = sectorOf 327680
      ∧ (327681 : Nat) ≠ 327680 ∧ (0x3C22 : Word) ≠ 0x3CEE ∧ sectorOf 393216 ≠ sectorOf 327680
      ∧ (0x3CEE : Word) ≠ 0x3C11 ∧ (0x3CEE : Word) ≠ 0x3C22 ∧ (0x3CEE : Word) ≠ 0x3C00 ∧ (0x3CEE : Word) ≠ 0x3C55
      ∧ (0x3CEE : Word) ≠ 0x3C66 := by decide +kernel

theorem witness_ProbeAndAbsentAbsorbEveryWrite :
    HostReady (with0 .probe) ∧ LoaderIdle (with0 .probe) ∧ TrackerSettled (with0 .probe) (devOf 16777215)
      ∧ ((with0 .probe).tracker.get (devOf 16777215)).record = .probe ∧ devOf 16777216 = .dev1
      ∧ TrackerSettled { ready with tracker := { dev0 := tracked .array, dev1 := tracked .absent } } (devOf 16777216) := by
  decide +kernel

/-- A suspended erase with a RESUME raised in its service slot. -/
def resuming (cause : ResumeCause) (p : Bool) : State := { with0 (.suspended 5 327680 .part p (some (fields 1 8))) with
  service := { dev0 := some { work := .resume cause, addr := 327680, behind := 0 }, dev1 := none } }

/-- The four states; in SUSPENDED with no request, with the timers' RESUME and with that of a pending-resume. -/
theorem witness_BusyProgramAbsorbsEveryWrite :
    HostReady (with0 (.busyProgram 5 327680 0)) ∧ LoaderIdle (with0 (.busyProgram 5 327680 0))
      ∧ TrackerSettled (with0 (.busyProgram 5 327680 0)) (devOf 0)
      ∧ HostReady (with0 (.busyErase 5 327680 none)) ∧ TrackerSettled (with0 (.busyErase 5 327680 none)) .dev0
      ∧ hostWaiting (with0 (.busyErase 5 327680 none)) .dev0 = 0 ∧ (with0 (.busyErase 5 327680 none)).service.dev0 = none
      ∧ HostReady (with0 (.suspending 5 327680 .part false none))
      ∧ TrackerSettled (with0 (.suspending 5 327680 .part false none)) .dev0
      ∧ HostReady (with0 (.suspended 5 327680 .part false none))
      ∧ TrackerSettled (with0 (.suspended 5 327680 .part false none)) .dev0
      ∧ (with0 (.suspended 5 327680 .part false none)).service.dev0 = none
      ∧ hostWaiting (with0 (.suspended 5 327680 .part false none)) .dev0 = 0
      ∧ HostReady (resuming .timers false) ∧ TrackerSettled (resuming .timers false) .dev0
      ∧ hostWaiting (resuming .timers false) .dev0 = 0
      ∧ ServiceWork.resume .timers ≠ .resume .pendingResume
      ∧ TrackerSettled (resuming .pendingResume true) .dev0
      ∧ (resuming .pendingResume true).service.dev0 = some { work := .resume .pendingResume, addr := 327680, behind := 0 }
      ∧ (0x3C55 : Word) ≠ 0x3C44 ∧ (0x3C55 : Word) ≠ 0x3C45 := by decide +kernel

/-- A device whose operation's transaction has ended, one with its reading raised. -/
def armed : State := { ready with tracker :=
  { dev0 := { tracked (.busyProgram 5 327680 0) with armed := true }, dev1 := tracked .array } }
def readRaised : State := { ready with
  tracker := { dev0 := { tracked (.busyProgram 5 327680 0) with armed := true, reading := true }, dev1 := tracked .array }
  service := { dev0 := some { work := .statusRead false, addr := 327680, behind := 0 }, dev1 := none } }

/-- A missed burst stalled in a state. -/
def stalled (why : StallWhy) (r : Record) : State := { with0 r with
  host := { ready.host with transaction := .read { addr := 0, count := 1, line := 0, generation := 0, cls := .miss,
                                                   stage := .stalled 0 why } } }

/-- A burst stalled for a SUSPEND that waits at the arbiter. -/
def suspendRaised : State := { stalled .suspendRaised (.busyErase 5 327680 (some (fields 0 8))) with
  service := { dev0 := some { work := .suspend, addr := 327680, behind := 0 }, dev1 := none } }

theorem passes_of_none {s : State} (d : Dev) (h : s.host.transaction = .none) : BypassesPass s d :=
  fun _ _ _ g => nomatch h.symm.trans g.1

theorem passes_of_miss {s : State} (d : Dev) (r : ReadRecord) (h : s.host.transaction = .read r) (hc : r.cls = .miss) :
    BypassesPass s d := by
  rintro x since why ⟨g, -, -⟩ hx
  obtain rfl : r = x := by simpa using h.symm.trans g
  exact nomatch hc.symm.trans hx

theorem nothing_of_none {s : State} (d : Dev) (h : s.host.transaction = .none) : NothingStalled s d :=
  fun _ _ _ g => nomatch h.symm.trans g.1

/-- A probe with and without the power-on load waiting for it, with and without a burst stalled in it; a rise before and after
the operation's transaction has ended, with a SUSPEND raised and without, and in SUSPENDING; STATUS; a reading whose read
waits, one whose read is granted, and none. -/
theorem witness_ReadyLineEndsProbesAndOperations :
    LoaderQuiet armed ∧ LoaderQuiet State.reset ∧ BypassesPass armed .dev0 ∧ BypassesPass State.reset .dev0
      ∧ BypassesPass (stalled .policy .probe) .dev0 ∧ BypassesPass suspendRaised .dev0
      ∧ StalledBurst suspendRaised .dev0 { addr := 0, count := 1, line := 0, generation := 0, cls := .miss,
                                           stage := .stalled 0 .suspendRaised } 0 .suspendRaised
      ∧ (∀ r since, ¬ StalledBurst (with0 (.busyErase 5 327680 none)) .dev0 r since .suspendRaised)
      ∧ armed.controller.dev0.call = none ∧ State.reset.controller.dev0.call = none
      ∧ (stalled .policy .probe).tracker.dev0.record = .probe ∧ suspendRaised.tracker.dev0.reading = false
      ∧ suspendRaised.service.dev0 = some { work := .suspend, addr := 327680, behind := 0 }
      ∧ State.reset.tracker.dev0.record = .probe ∧ State.reset.loader.state = .waiting .powerOn 0
      ∧ (with0 .probe).tracker.dev0.record = .probe ∧ LoaderIdle (with0 .probe)
      ∧ armed.tracker.dev0.record = .busyProgram 5 327680 0
      ∧ armed.tracker.dev0.reading = false ∧ armed.service.dev0 = none ∧ armed.tracker.dev0.armed = true
      ∧ (with0 (.busyErase 5 327680 none)).tracker.dev0.armed = false
      ∧ (with0 (.busyErase 5 327680 none)).tracker.dev0.reading = false
      ∧ (with0 (.suspending 5 327680 .part false (some (fields 1 8)))).tracker.dev0.keptRun = none
      ∧ (with0 (.suspending 5 327680 .part false (some (fields 1 8)))).tracker.dev0.reading = false
      ∧ (with0 (.suspending 5 327680 .part false (some (fields 1 8)))).service.dev0 = none
      ∧ (with0 (.status 5)).tracker.dev0.record = .status 5
      ∧ readRaised.tracker.dev0.reading = true
      ∧ readRaised.service.dev0 = some { work := .statusRead false, addr := 327680, behind := 0 } ∧ readRaised.bus = none
      ∧ (readGranted (.busyErase 5 327680 none) ready.active).tracker.dev0.reading = true
      ∧ (readGranted (.busyErase 5 327680 none) ready.active).service.dev0 = none
      ∧ (readGranted (.busyErase 5 327680 none) ready.active).bus = some (.service .dev0 (.statusRead false) 65536) := by
  refine ⟨quiet_of_idle rfl, fun _ h => (nomatch h), passes_of_none _ rfl, passes_of_none _ rfl, passes_of_miss _ _ rfl rfl,
    passes_of_miss _ _ rfl rfl, ⟨rfl, rfl, by decide⟩, fun _ _ h => nothing_of_none _ rfl _ _ _ h, ?_⟩
  decide

theorem witness_ArbiterGrantsInItsOrder :
    readRaised.bus = none ∧ readRaised.service.dev0 = some { work := .statusRead false, addr := 327680, behind := 0 }
      ∧ ready.bus = none ∧ ready.hostPath = [] ∧ loaderRequest ready = none ∧ fillRequest ready = none
      ∧ fillRequest (filling .waiting) = some 4096
      ∧ loaderRequest { ready with loader := { state := .reading .reload 0 0 [], bootSector := 0 } } = some (0, 2) := by
  decide +kernel

/-- Device 0's tracker request behind a transaction of the device at the front of the path. -/
def behind (x : HostTxn) : State := { with0 (.suspended 5 327680 .part false (some (fields 1 8))) with
  hostPath := [x]
  service := { dev0 := some { work := .resume .timers, addr := 327680, behind := 1 }, dev1 := none } }

/-- A status read and a loader's ARRAY write that may be granted; a missed read, a read in STATUS and an ARRAY write in front of
a tracker request; a fill's line; a bus that is BUSY. -/
theorem witness_ArbiterGrantsInItsOrder_whole :
    LoaderPassive { readRaised with bus := some (.service .dev0 (.statusRead false) 327680),
                                    service := readRaised.service.set .dev0 none }
      ∧ LoaderPassive (cleanupRaised (.status 5) (.arrayWrite false))
      ∧ (cleanupRaised (.status 5) (.arrayWrite false)).service.dev0
          = some { work := .arrayWrite false, addr := 327680, behind := 0 }
      ∧ (∀ x, LoaderPassive (behind x) ∧ (behind x).bus = none ∧ (behind x).hostPath = x :: []
        ∧ (∀ d q, (behind x).service.get d = some q → q.behind ≠ 0) ∧ (∀ d, ((behind x).tracker.get d).kept = [])
        ∧ (∀ r, (behind x).host.transaction = .read r → r.stage = .deferred → devOf r.addr ≠ x.dev))
      ∧ (behind (.read 0 16 false false)).hostPath = [.read 0 16 false false]
      ∧ (behind (.read 327680 1 true false)).hostPath = [.read 327680 1 true false]
      ∧ (0x3C00 : Word) ≠ 0x3C44 ∧ (0x3C00 : Word) ≠ 0x3C45
      ∧ LoaderPassive (filling .waiting) ∧ (filling .waiting).fill.job = some (job .waiting)
      ∧ (readGranted (.status 5) ready.active).bus = some (.service .dev0 (.statusRead false) 65536)
      ∧ LoaderPassive (readGranted (.status 5) ready.active) := by
  refine ⟨passive_of_idle rfl, passive_of_idle rfl, rfl, fun x => ⟨passive_of_idle rfl, rfl, rfl, fun d q h => ?_, fun d => ?_,
    fun _ h => (nomatch h)⟩, rfl, rfl, by decide, by decide, passive_of_idle rfl, rfl, rfl, passive_of_idle rfl⟩
  · cases d
    · obtain rfl := Option.some.inj h
      decide
    · cases h
  · cases d <;> rfl

def pairRaised : State := { with0 (.busyErase 5 327680 none) with hostPath := [.pair 327690 0x3C22 327680 0x3CEE] }

/-- The pair of a program, with a burst of its device deferred to it. -/
def programPair (deferred : Bool) : State := { with0 (.busyProgram 5 327680 0) with
  hostPath := [.pair 327680 0x3C11 327680 0]
  host := { ready.host with transaction :=
    if deferred then (.read { addr := 0, count := 1, line := 0, generation := 0, cls := .miss, stage := .deferred })
    else .none } }

/-- An erase's pair and a program's, with no burst present and with one deferred, under either policy. -/
theorem witness_ErasePairForwardingSetsTheEraseFields :
    LoaderIdle pairRaised ∧ pairRaised.bus = none ∧ (∀ d, pairRaised.service.get d = none)
      ∧ pairRaised.hostPath = [.pair 327690 0x3C22 327680 0x3CEE] ∧ devOf 327690 = .dev0
      ∧ pairRaised.tracker.dev0.record = .busyErase 5 327680 none ∧ pairRaised.tracker.dev0.kept = []
      ∧ pairRaised.host.transaction = .none
      ∧ LoaderIdle (programPair true) ∧ (programPair true).bus = none ∧ (∀ d, (programPair true).service.get d = none)
      ∧ (programPair true).hostPath = [.pair 327680 0x3C11 327680 0] ∧ devOf 327680 = .dev0
      ∧ (programPair true).tracker.dev0.record = .busyProgram 5 327680 0 ∧ (programPair true).tracker.dev0.kept = []
      ∧ (programPair false).host.transaction = .none
      ∧ (programPair true).host.transaction
          = .read { addr := 0, count := 1, line := 0, generation := 0, cls := .miss, stage := .deferred }
      ∧ devOf 0 = .dev0 ∧ Policy.default.autoSuspend = true ∧ 0 < Policy.default.budget ∧ 0 < Policy.default.minRun
      ∧ Policy.default.missPolicy = .stall ∧ ({ Policy.default with missPolicy := .pass } : Policy).missPolicy = .pass
      ∧ (programPair true).controller.dev0.call = none := by
  refine ⟨by decide, rfl, fun d => by cases d <;> rfl, rfl, by decide, rfl, rfl, rfl, by decide, rfl,
    fun d => by cases d <;> rfl, rfl, by decide, rfl, rfl, rfl, rfl, by decide, rfl, by decide, by decide, rfl, rfl, rfl⟩

/-- A SUSPEND of the part; a RESUME of each cause, the loader's while a reload waits, with no burst stalled and with one; the
host's SUSPEND and RESUME words on the host path. -/
theorem witness_SuspendAndResumeAreForwarded :
    LoaderQuiet suspendRaised ∧ suspendRaised.bus = none ∧ (∀ x, x ≠ .dev0 → suspendRaised.service.get x = none)
      ∧ suspendRaised.service.dev0 = some { work := .suspend, addr := 327680, behind := 0 }
      ∧ suspendRaised.tracker.dev0.record = .busyErase 5 327680 (some (fields 0 8))
      ∧ suspendRaised.host.transaction = .read { addr := 0, count := 1, line := 0, generation := 0, cls := .miss,
                                                 stage := .stalled 0 .suspendRaised }
      ∧ devOf 0 = .dev0
      ∧ (∀ cause p, LoaderQuiet (resuming cause p) ∧ (resuming cause p).bus = none ∧ NothingStalled (resuming cause p) .dev0
        ∧ (∀ x, x ≠ .dev0 → (resuming cause p).service.get x = none)
        ∧ (resuming cause p).service.dev0 = some { work := .resume cause, addr := 327680, behind := 0 }
        ∧ (resuming cause p).tracker.dev0.record = .suspended 5 327680 .part p (some (fields 1 8)))
      ∧ (waiting (.suspended 5 327680 .host false (some (fields 1 8)))).loader.state = .waiting .reload 0
      ∧ (let s : State := { resuming .pendingResume true with host := (stalled .suspending .array).host }
        StalledBurst s .dev0 { addr := 0, count := 1, line := 0, generation := 0, cls := .miss,
                               stage := .stalled 0 .suspending } 0 .suspending
          ∧ pairWaits s .dev0 = false ∧ s.policy.dev0.autoSuspend = true ∧ 0 < s.policy.dev0.minRun)
      ∧ (fields 1 8).disabled = false ∧ (fields 7 8).count < (fields 7 8).snapshot
      ∧ (let s (w : Word) : State := { with0 (.suspending 5 327680 .host false none) with hostPath := [.write 327680 w] }
        ∀ w, LoaderQuiet (s w) ∧ (s w).bus = none ∧ (∀ x, x ≠ .dev0 → (s w).service.get x = none) ∧ (s w).service.dev0 = none
          ∧ (s w).hostPath = .write 327680 w :: [] ∧ devOf 327680 = .dev0 ∧ (s w).tracker.dev0.kept = []
          ∧ (s w).tracker.dev0.record = .suspending 5 327680 .host false none ∧ (s w).tracker.dev0.reading = false) := by
  have other : ∀ (q : Option ServiceReq) (x : Dev), x ≠ .dev0 → ({ dev0 := q, dev1 := none } : PerDev (Option ServiceReq)).get x = none := by
    intro q x hx; cases x
    · exact absurd rfl hx
    · rfl
  refine ⟨quiet_of_idle rfl, rfl, other _, rfl, rfl, rfl, by decide,
    fun cause p => ⟨quiet_of_idle rfl, rfl, nothing_of_none _ rfl, other _, rfl, rfl⟩, rfl,
    ⟨⟨rfl, rfl, by decide⟩, by decide, rfl, by decide⟩, rfl, by decide,
    fun w => ⟨quiet_of_idle rfl, rfl, other _, rfl, rfl, by decide, rfl, rfl, rfl⟩⟩

/-- The host's words with a request of the device behind them, and the SUSPEND while a status read decides the record. -/
theorem witness_SuspendAndResumeAreForwarded_behind (w : Word) (reading : Bool) :
    let s : State := { behind (.write 327680 w) with
      tracker := { dev0 := { tracked (.suspending 5 327680 .host false none) with reading := reading }, dev1 := tracked .array } }
    LoaderPassive s ∧ s.bus = none ∧ (∀ x, x ≠ .dev0 → s.service.get x = none)
      ∧ (∀ q, s.service.get .dev0 = some q → q.behind ≠ 0) ∧ s.hostPath = .write 327680 w :: [] ∧ devOf 327680 = .dev0
      ∧ s.tracker.dev0.kept = [] ∧ s.tracker.dev0.record = .suspending 5 327680 .host false none
      ∧ s.tracker.dev0.reading = reading := by
  refine ⟨passive_of_idle rfl, rfl, fun x hx => ?_, fun q h => ?_, rfl, by decide, rfl, rfl, rfl⟩
  · cases x
    · exact absurd rfl hx
    · rfl
  · obtain rfl := Option.some.inj h
    decide

/-- A program over no entry, and one over a follow = yes entry; an erase that may still be suspended and one after a suspend
timeout; a suspension of the part with and without a pending-resume, and one of the host; a bank with a follow = yes entry
in the erased sector; READY alone, with a fail flag, clear, and SUSPENDED; each with and without a burst stalled. -/
theorem witness_StatusReadDecidesTheProgram :
    let s (r : Record) : State := readGranted r ready.active
    (∀ r, LoaderQuiet (s r) ∧ BypassesPass (s r) .dev0
        ∧ BypassesPass { s r with host := (stalled .suspending .array).host } .dev0
        ∧ (s r).controller.dev0.call = none ∧ (s r).tracker.dev0.kept = []
        ∧ (s r).tracker.dev0.keptRun = none ∧ (s r).service.dev0 = none ∧ (s r).tracker.dev0.record = r
        ∧ (s r).bus = some (.service .dev0 (.statusRead false) 65536) ∧ (s r).follow = { current := none, waiting := [] })
      ∧ lookup (s .array).active (lineOf 65536) = none
      ∧ lookup (withActive (replaceEntry 4096 5 true none)).active (lineOf 65536) = some (3, replaceEntry 4096 5 true none)
      ∧ (replaceEntry 4096 5 true none).followSlot = some 5
      ∧ activeEntries (withActive (replaceEntry 4096 5 true none)).active = [(3, replaceEntry 4096 5 true none)]
      ∧ 4096 / 4096 = 1 ∧ 8192 / 4096 ≠ 1
      ∧ (fields 1 8).disabled = false ∧ ({ fields 1 8 with disabled := true } : EraseFields).disabled = true
      ∧ (0x0080 : Word).getLsbD 7 = true
      ∧ ((0x0080 : Word).getLsbD 5 || (0x0080 : Word).getLsbD 4 || (0x0080 : Word).getLsbD 3) = false
      ∧ (0x0080 : Word).getLsbD 6 = false ∧ (0x00C0 : Word).getLsbD 6 = true
      ∧ (0x0090 : Word).getLsbD 4 = true ∧ (0x0000 : Word).getLsbD 7 = false := by
  refine ⟨fun r => ⟨quiet_of_idle rfl, passes_of_none _ rfl, passes_of_miss _ _ rfl rfl, rfl, rfl, rfl, rfl, rfl, rfl, rfl⟩, ?_⟩
  decide +kernel

/-- A list with a run of the other device alone, one with a run of this device that has not begun, and one with it begun. -/
theorem witness_StatusReadDecidesTheProgram_list :
    let s (run : FollowRun) (more : List FollowRun) : State :=
      { readGranted (.busyErase 5 327680 (some (fields 1 8))) ready.active with
        follow := { current := some run, waiting := more } }
    let one (d : Dev) : FollowRun := .program d 5 0 0
    (s (one .dev0) []).follow.current ≠ none ∧ (s (one .dev0) []).follow.waiting = []
      ∧ (∀ z ∈ (s (one .dev0) [one .dev1]).follow.waiting, z.dev ≠ .dev0)
      ∧ (∃ z ∈ (s (one .dev1) [one .dev1, one .dev0]).follow.waiting, z.dev = .dev0)
      ∧ (s (one .dev0) []).tracker.dev0.keptRun = none
      ∧ (s (one .dev0) []).bus = some (.service .dev0 (.statusRead false) 65536) := by
  decide +kernel

def readOnTheBus (discard : Bool) : State := { ready with
  host := { ready.host with transaction := .read { addr := 0, count := 16, line := 0, generation := 0, cls := .miss,
                                                   stage := .forwarded } }
  bus := some (.host (.read 0 16 false discard)) }

/-- A burst of a TRAP hit on the bus, its generation in force; a fill line for a free slot, a live one and a protected one;
a pair, a RESUME of the host and another of its words, a RESUME of each cause and an ARRAY write of either kind. -/
theorem witness_TransactionEndDeliversItsWords :
    LoaderPassive (readOnTheBus false) ∧ (readOnTheBus false).commit = .idle
      ∧ (∀ d, ((readOnTheBus false).controller.get d).call = none)
      ∧ (∀ p m k, Classification.miss ≠ .hit p m k)
      ∧ (readOnTheBus true).bus = some (.host (.read 0 16 false true))
      ∧ activeAt (withActive trapEntry).active 3 = some { entry := trapEntry, hitCount := 0 }
      ∧ (withActive trapEntry).generation = 0
      ∧ (filling .reading).fill.job = some (job .reading)
      ∧ live { filling .reading with bus := some (.fill 65536) } ((job .reading).firstSlot + 0) = false
      ∧ stagedProtected { filling .reading with bus := some (.fill 65536) } ((job .reading).firstSlot + 0) = false
      ∧ live { withActive (replaceEntry 4096 0 false none) with fill := (filling .reading).fill } 0 = true
      ∧ stagedProtected { withStaged (replaceEntry 4096 0 false none) with
            fill := (filling .reading).fill, commit := committing.commit } 0 = true
      ∧ ({ ready with bus := some (.host (.pair 327690 0x3C22 327680 0x3CEE)) } : State).bus
          = some (.host (.pair 327690 0x3C22 327680 0x3CEE)) ∧ devOf 327690 = .dev0
      ∧ ({ ready with bus := some (.host (.write 16777216 0x3C45)) } : State).bus = some (.host (.write 16777216 0x3C45))
      ∧ devOf 16777216 = .dev1 ∧ (0x3C44 : Word) ≠ 0x3C45
      ∧ ResumeCause.loader ≠ .cleanup
      ∧ (cleanupGranted (.suspended 5 327680 .part true none) (.resume .cleanup)).bus
          = some (.service .dev0 (.resume .cleanup) 327680)
      ∧ (cleanupGranted (.suspended 5 327680 .part true none) (.resume .cleanup)).tracker.dev0.record
          = .suspended 5 327680 .part true none
      ∧ (cleanupGranted (.status 5) (.arrayWrite false)).bus = some (.service .dev0 (.arrayWrite false) 327680)
      ∧ (cleanupGranted (.status 5) (.arrayWrite false)).tracker.dev0.record = .status 5
      ∧ (cleanupGranted (.status 5) (.arrayWrite false)).tracker.dev0.kept = []
      ∧ LoaderIdle (cleanupGranted (.status 5) (.arrayWrite false)) := by
  refine ⟨passive_of_idle rfl, rfl, fun d => by cases d <;> rfl, fun _ _ _ h => (nomatch h), rfl, ?_⟩
  decide +kernel

/-- A forwarded read of device 0, in a suspension of the part whose end a timer has called for. -/
def resumeCalled (call : ResumeCall) : State := { readOnTheBus false with
  tracker := { dev0 := tracked (.suspended 5 327680 .part false (some (fields 1 8))), dev1 := tracked .array }
  controller := { dev0 := { Controller.lapsed with call := some call }, dev1 := Controller.lapsed } }

/-- A RESUME called for by each timer at its read's end; while a reload waits, the loader's own ARRAY write and its RESUME on
the bus, and the reads and writes of a host whose record gives the loader nothing to do. -/
theorem witness_TransactionEndDeliversItsWords_resume_and_reload :
    (∀ c, LoaderPassive (resumeCalled c) ∧ (resumeCalled c).bus = some (.host (.read 0 16 false false))
        ∧ (resumeCalled c).controller.dev0.call = some c ∧ (resumeCalled c).service.dev0 = none
        ∧ (resumeCalled c).tracker.dev0.record = .suspended 5 327680 .part false (some (fields 1 8))
        ∧ readOutstanding { resumeCalled c with bus := none } .dev0 = false)
      ∧ (let s : State := { waiting (.status 0) with bus := some (.service .dev0 (.arrayWrite false) 0) }
        s.loader.state = .waiting .reload 0 ∧ s.tracker.dev0.record = .status 0 ∧ s.tracker.dev0.kept = []
          ∧ s.bus = some (.service .dev0 (.arrayWrite false) 0))
      ∧ (let s : State := { waiting (.busyErase 5 327680 none) with bus := some (.service .dev0 (.resume .loader) 327680) }
        LoaderPassive s ∧ s.loader.state = .waiting .reload 0 ∧ s.tracker.dev0.kept = [] ∧ ResumeCause.loader ≠ .cleanup)
      ∧ (let s : State := { waiting (.suspended 5 327680 .host false none) with
          bus := some (.service .dev0 (.resume .cleanup) 327680) }
        s.tracker.dev0.record = .suspended 5 327680 .host false none ∧ s.tracker.dev0.kept = [])
      ∧ LoaderPassive { waiting .array with bus := some (.host (.write 327680 0x3C44)) } :=
  ⟨fun c => ⟨passive_of_idle rfl, rfl, rfl, rfl, rfl, by cases c <;> decide⟩, ⟨rfl, rfl, rfl, rfl⟩,
    ⟨fun _ _ => trivial, rfl, rfl, by decide⟩, ⟨rfl, rfl⟩, fun _ _ => trivial⟩

/-- A TRAP hit on the bus whose position a switch has emptied since; a SUSPEND of the part on the bus, and a status read whose
reading was dropped. -/
theorem witness_TransactionEndDeliversItsWords_emptied :
    let r : ReadRecord := { addr := 65536, count := 1, line := 4096, generation := 0, cls := .hit 3 .trap 0, stage := .forwarded }
    let s : State := { ready with
      generation := 1
      host := { ready.host with transaction := .read r }
      bus := some (.host (.read 65536 1 false false)) }
    LoaderPassive s ∧ s.bus = some (.host (.read 65536 1 false false)) ∧ s.host.transaction = .read r ∧ r.cls = .hit 3 .trap 0
      ∧ activeAt s.active 3 = none
      ∧ LoaderPassive (cleanupGranted (.suspending 5 327680 .part false (some (fields 1 8))) .suspend)
      ∧ (cleanupGranted (.suspending 5 327680 .part false (some (fields 1 8))) .suspend).bus
          = some (.service .dev0 .suspend 327680)
      ∧ LoaderPassive (cleanupGranted .array (.statusRead true))
      ∧ (cleanupGranted .array (.statusRead true)).bus = some (.service .dev0 (.statusRead true) 327680) :=
  ⟨passive_of_idle rfl, rfl, rfl, rfl, by decide, passive_of_idle rfl, rfl, passive_of_idle rfl, rfl⟩

/-- One requester of the port at a time, each alone. -/
theorem witness_StorePortTakesTheHighestRequester :
    reading.host.dropped = none ∧ portChoice ready = none
      ∧ portChoice { ready with commit := .verifying (inFlight .immediate) { position := 3, index := 0, check := 0xFFFF } }
          = some (.verify (inFlight .immediate) { position := 3, index := 0, check := 0xFFFF })
      ∧ portChoice { ready with link := { ready.link with processing := some processing } }
          = some (.management processing) := by decide +kernel

/-- A burst of `count` words of ACTIVE position 3 with none answered yet. -/
def burst (count : Nat) : ReadRecord :=
  { addr := 65536, count := count, line := 4096, generation := 0, cls := .hit 3 (.replace 5 false none) 0, stage := .store }
def bursting (count : Nat) : State :=
  { withActive (replaceEntry 4096 5 false none) with host := { ready.host with transaction := .read (burst count) } }

/-- The verification of a one-line entry at a word of its line. -/
def verifying (index : Nat) (want : Word) (m : CommitMode) : State :=
  { withStaged (replaceEntry 4096 5 false (some want)) with
    commit := .verifying (inFlight m) { position := 3, index := index, check := 0xFFFF } }

/-- A fill of `n` lines with a word of its first line to write. -/
def writingFill (o n : Nat) (target : Option Nat) (abort : Option AbortCause) : State := { ready with
  staged := (withStaged (replaceEntry 4096 5 false none)).staged
  fill := { job := some { job (.writing (Vector.replicate 16 0) o) with lineCount := n, target := target, abort := abort },
            progress := 0 } }

/-- A store request at the port, the pointer at a place. -/
def requesting (w : StoreWork) (slot offset : Nat) : State := { ready with
  ptr := { slot := slot, offset := offset }
  link := { ready.link with processing := some { processing with work := w } } }

/-- An erase's run inside a slot, at a slot's last word with a slot left, and at its last word with and without a run behind
it; a READ_STORE and a WRITE_STORE with words left, at their last word, and at the last word of the store. -/
theorem witness_StorePortAppliesTheAccess_runs_and_requests :
    let follow (slots : List Nat) (o : Nat) (more : List FollowRun) : State :=
      { ready with follow := { current := some (.erase .dev0 slots o), waiting := more } }
    portChoice (follow [5, 6] 14 []) = some (.follow (.erase .dev0 [5, 6] 14))
      ∧ portChoice (follow [5, 6] 15 []) = some (.follow (.erase .dev0 [5, 6] 15))
      ∧ portChoice (follow [6] 15 [.program .dev1 5 0 0]) = some (.follow (.erase .dev0 [6] 15))
      ∧ (follow [6] 15 []).follow.waiting = [] ∧ ready.tracker.dev0.keptRun = none ∧ ready.tracker.dev1.keptRun = none
      ∧ (follow [6] 15 [.program .dev1 5 0 0]).follow.waiting = [.program .dev1 5 0 0]
      ∧ portChoice (requesting (.read (1 + 1) []) 2047 14) = some (.management { processing with work := .read (1 + 1) [] })
      ∧ (requesting (.read (1 + 1) []) 2047 14).ptr.next.slot ≠ 2048
      ∧ portChoice (requesting (.read (0 + 1) [7]) 2047 15) = some (.management { processing with work := .read (0 + 1) [7] })
      ∧ portChoice (requesting (.read (1 + 1) []) 2047 15) = some (.management { processing with work := .read (1 + 1) [] })
      ∧ (requesting (.read (1 + 1) []) 2047 15).ptr.next.slot = 2048
      ∧ portChoice (requesting (.write [1, 2] 0) 2047 15) = some (.management { processing with work := .write [1, 2] 0 })
      ∧ (requesting (.write [1, 2] 0) 2047 15).ptr.next.slot = 2048
      ∧ live (requesting (.write [1, 2] 0) 2047 15) 2047 = false
      ∧ stagedProtected (requesting (.write [1, 2] 0) 2047 15) 2047 = false
      ∧ processing.superseded = false ∧ ready.link.pendingResponse = none ∧ ready.link.waiting = none := by decide +kernel

/-- A hit burst with words left and at its last word; a follow run; a verification inside its entry, at an entry's last word
with a wrong and with the right check value (of a word 0xFFFF folded into 0xFFFF), with and without a further entry; a fill
word, and a line's last word with each abort cause, with lines left, and with none and each kind of target; a write at a free
slot and one at a live slot. -/
theorem witness_StorePortAppliesTheAccess :
    portChoice (bursting 4) = some (.hit (burst 4) 5 0) ∧ (bursting 4).host.dataOut.length + 1 < (burst 4).count
      ∧ portChoice (bursting 1) = some (.hit (burst 1) 5 0) ∧ (burst 1).count ≤ (bursting 1).host.dataOut.length + 1
      ∧ activeAt (bursting 1).active 3 = some { entry := replaceEntry 4096 5 false none, hitCount := 0 }
      ∧ (burst 1).generation = (bursting 1).generation
      ∧ portChoice { ready with follow := { current := some (.program .dev0 5 15 0), waiting := [] } }
          = some (.follow (.program .dev0 5 15 0))
      ∧ portChoice (verifying 14 0 .immediate)
          = some (.verify (inFlight .immediate) { position := 3, index := 14, check := 0xFFFF })
      ∧ 14 + 1 < 1 * 16 ∧ 1 * 16 ≤ 15 + 1 ∧ (verifying 15 0 .immediate).host.loadHold = false
      ∧ stagedAt (verifying 15 0 .immediate).staged 3 = some (replaceEntry 4096 5 false (some 0))
      ∧ crcWord 0xFFFF ((verifying 15 0 .immediate).store.read (5 * 16 + 15)) ≠ 0x1234
      ∧ crcWord 0xFFFF ((verifying 15 0 .immediate).store.read (5 * 16 + 15)) = 0
      ∧ nextChecked (verifying 15 0 .immediate).staged (3 + 1) = none
      ∧ nextChecked ((verifying 15 0 .immediate).staged.setIfInBounds 63 (some (replaceEntry 0 6 false (some 0)))) (3 + 1)
          = some 63
      ∧ readInProgress (verifying 15 0 .immediate) = false
      ∧ readInProgress { verifying 15 0 .immediate with host := (readOnTheBus false).host } = true
      ∧ (inFlight (.atMark 4096 1)).mode = .atMark 4096 1
      ∧ (portChoice (writingFill 14 1 none none)).isSome = true ∧ (portChoice (writingFill 15 2 none none)).isSome = true
      ∧ (portChoice (writingFill 15 1 (some 3) none)).isSome = true
      ∧ (portChoice (writingFill 15 1 (some 63) (some .aborted))).isSome = true
      ∧ live (writingFill 15 1 (some 3) none) 0 = false ∧ stagedProtected (writingFill 15 1 (some 3) none) 0 = false
      ∧ stagedAt (writingFill 15 1 (some 3) none).staged 3 = some (replaceEntry 4096 5 false none)
      ∧ stagedAt (writingFill 15 1 (some 63) none).staged 63 = none ∧ (writingFill 15 1 (some 3) none).commit = .idle
      ∧ live ready 0 = false ∧ stagedProtected ready 0 = false ∧ (StorePtr.next ready.ptr).slot ≠ 2048
      ∧ live (withActive (replaceEntry 4096 0 false none)) 0 = true ∧ processing.superseded = false
      ∧ ready.link.pendingResponse = none ∧ ready.link.waiting = none := by decide +kernel

/-- A dropped burst at the port, beside a program's run that waits there; a burst's last word after a switch that has emptied
its position. -/
theorem witness_StorePortAppliesTheAccess_dropped :
    let s : State := { ready with
      host := { ready.host with dropped := some 80 }
      follow := { current := some (.program .dev0 5 15 0), waiting := [] } }
    let u : State := { ready with generation := 1, host := (bursting 1).host }
    s.host.dropped = some 80 ∧ portChoice s = some .dropped ∧ LoaderPassive s
      ∧ portChoice u = some (.hit (burst 1) 5 0) ∧ (burst 1).count ≤ u.host.dataOut.length + 1
      ∧ (burst 1).cls = .hit 3 (.replace 5 false none) 0 ∧ activeAt u.active 3 = none ∧ LoaderIdle u :=
  ⟨rfl, by decide +kernel, passive_of_idle rfl, by decide +kernel, by decide, rfl, by decide, rfl⟩

/-- Device 0 with a run kept back, at the last word of the run before the list's: a program's run and an erase's, with the
list's own run of device 0 beginning, with a further one left, and with device 1's run kept too. -/
def runKept (last : FollowRun) (more : List FollowRun) (kept1 : Option FollowRun) : State :=
  { with0 (.busyErase 5 327680 none) with
    tracker :=
      { dev0 := { tracked (.busyErase 5 327680 none) with keptRun := some (.erase .dev0 [5] 0) }
        dev1 := { tracked .array with keptRun := kept1 } }
    follow := { current := some last, waiting := more } }

theorem witness_StorePortAppliesTheAccess_kept_run :
    let one (d : Dev) : FollowRun := .program d 5 0 0
    portChoice (runKept (one .dev0) [one .dev0] none) = some (.follow (one .dev0))
      ∧ portChoice (runKept (.erase .dev0 [2047] 15) [one .dev0] none) = some (.follow (.erase .dev0 [2047] 15))
      ∧ (runKept (one .dev0) [one .dev0] none).follow.waiting = one .dev0 :: []
      ∧ (runKept (one .dev0) [one .dev0] none).tracker.dev0.keptRun = some (.erase .dev0 [5] 0)
      ∧ (runKept (one .dev0) [one .dev0] none).tracker.dev0.record.commandSector = some 5
      ∧ (runKept (one .dev0) [one .dev0] none).tracker.dev0.kept = []
      ∧ (∀ z ∈ ([] : List FollowRun), z.dev ≠ .dev0) ∧ (∃ z ∈ [one .dev1, one .dev0], z.dev = .dev0)
      ∧ (∀ z ∈ [one .dev1], z.dev ≠ .dev0) ∧ (∃ z ∈ [one .dev1], z.dev = .dev1)
      ∧ (runKept (one .dev0) [one .dev0] none).tracker.dev1.keptRun = none := by decide +kernel

theorem witness_StorePortAppliesTheAccess_kept_run_passes (last : FollowRun) (more : List FollowRun) :
    BypassesPass (runKept last more none) .dev0 := passes_of_none _ rfl

/-- The loader's verification at its entry's last word with a wrong and with the right check value, with a further entry, and
with and without a read in progress. -/
theorem witness_StorePortAppliesTheAccess_load :
    let f : InFlight := { mode := .immediate, origin := .loader }
    let s (index : Nat) (want : Word) : State := { withStaged (replaceEntry 4096 5 false (some want)) with
      commit := .verifying f { position := 3, index := index, check := 0xFFFF }
      loader := { state := .committing .reload 127, bootSector := 0 }
      host := { ready.host with loadHold := true } }
    portChoice (s 14 0) = some (.verify f { position := 3, index := 14, check := 0xFFFF })
      ∧ (s 15 0).loader.state = .committing .reload 127 ∧ (s 15 0).host.loadHold = true ∧ f.mode = .immediate
      ∧ stagedAt (s 15 0).staged 3 = some (replaceEntry 4096 5 false (some 0))
      ∧ crcWord 0xFFFF ((s 15 0).store.read (5 * 16 + 15)) = 0 ∧ readInProgress (s 15 0) = false
      ∧ nextChecked (s 15 0).staged (3 + 1) = none
      ∧ readInProgress { s 15 0 with host := { reading.host with loadHold := true } } = true := by decide +kernel

/-- A miss and a TRAP hit. -/
theorem witness_StallTimeoutAnswersTheFaultWord :
    (stalled .policy (.busyProgram 5 327680 0)).host.transaction
        = .read { addr := 0, count := 1, line := 0, generation := 0, cls := .miss, stage := .stalled 0 .policy }
      ∧ (stalled .policy (.busyProgram 5 327680 0)).commit = .idle
      ∧ ({ addr := 65536, count := 1, line := 4096, generation := 0, cls := .hit 3 .trap 0, stage := .stalled 0 .policy }
          : ReadRecord).cls = .hit 3 .trap 0
      ∧ activeAt (withActive trapEntry).active 3 = some { entry := trapEntry, hitCount := 0 }
      ∧ (withActive trapEntry).generation = 0 := by decide +kernel

/-- A TRAP hit that stalls while a switch empties its position. -/
theorem witness_StallTimeoutAnswersTheFaultWord_emptied :
    let r : ReadRecord :=
      { addr := 65536, count := 1, line := 4096, generation := 0, cls := .hit 3 .trap 0, stage := .stalled 0 .policy }
    let s : State := { with0 (.busyProgram 5 327680 0) with
      generation := 1, host := { ready.host with transaction := .read r } }
    s.host.transaction = .read r ∧ r.stage = .stalled 0 .policy ∧ r.cls = .hit 3 .trap 0 ∧ activeAt s.active 3 = none := by
  decide +kernel

/-- A suspension that times out, with no burst stalled and with one that falls to either miss policy, and one whose rise has
been taken. -/
theorem witness_SuspendTimeoutDisablesSuspension :
    let s (why : StallWhy) : State := { stalled why (.suspending 5 327680 .part false (some (fields 1 8))) with
      controller := { dev0 := { Controller.lapsed with suspendTimer := some 7 }, dev1 := Controller.lapsed } }
    BypassesPass (with0 (.suspending 5 327680 .part false (some (fields 1 8)))) .dev0
      ∧ BypassesPass (s .suspending) .dev0 ∧ (s .suspending).controller.dev0.call = none
      ∧ (s .suspending).controller.dev0.suspendTimer = some 7
      ∧ (s .suspending).tracker.dev0.record = .suspending 5 327680 .part false (some (fields 1 8))
      ∧ (s .suspending).policy.dev0.missPolicy = .stall ∧ ({ Policy.default with missPolicy := .pass } : Policy).missPolicy = .pass
      ∧ StallWhy.suspending ≠ .policy
      ∧ (with0 (.suspending 5 327680 .part false (some (fields 1 8)))).tracker.dev0.reading = false
      ∧ ({ tracked (.suspending 5 327680 .part false (some (fields 1 8))) with reading := true } : Tracker).reading = true :=
  ⟨passes_of_none _ rfl, passes_of_miss _ _ rfl rfl, rfl, rfl, rfl, rfl, rfl, by decide, rfl, rfl⟩

def minRunWaits : State := { stalled .minRun (.busyErase 5 327680 (some (fields 7 8))) with
  controller := { dev0 := { Controller.lapsed with lastResume := some 0 }, dev1 := Controller.lapsed } }
def partOwned : State := { with0 (.suspended 5 327680 .part false (some (fields 1 8))) with
  controller := { dev0 := { Controller.lapsed with idleTimer := some 0, holdTimer := some 0 }, dev1 := Controller.lapsed } }

/-- A suspension still available at min_run's end, and one no longer available under each miss policy. -/
theorem witness_BusyServiceTimersRaiseTheirRequests :
    minRunWaits.service.dev0 = none ∧ minRunWaits.controller.dev0.lastResume = some 0
      ∧ minRunWaits.tracker.dev0.record = .busyErase 5 327680 (some (fields 7 8))
      ∧ minRunWaits.tracker.dev0.reading = false ∧ minRunWaits.tracker.dev0.keptRun = none
      ∧ minRunWaits.policy.dev0.autoSuspend = true ∧ (fields 7 8).count < (fields 7 8).snapshot ∧ devOf 0 = .dev0
      ∧ ({ Policy.default with autoSuspend := false } : Policy).missPolicy = .stall
      ∧ ({ Policy.default with autoSuspend := false, missPolicy := .pass } : Policy).autoSuspend = false
      ∧ minRunWaits.controller.dev0.call = none
      ∧ partOwned.service.dev0 = none ∧ readOutstanding partOwned .dev0 = false ∧ partOwned.controller.dev0.call = none
      ∧ partOwned.controller.dev0.idleTimer = some 0 ∧ partOwned.controller.dev0.holdTimer = some 0 := by decide +kernel

/-- A call while a forwarded read is outstanding and while another request of the tracker stands; a call that stands, of
each timer. -/
theorem witness_BusyServiceTimersRaiseTheirRequests_called :
    readOutstanding { partOwned with bus := some (.host (.read 0 16 false false)) } .dev0 = true
      ∧ (resuming .pendingResume true).service.dev0 = some { work := .resume .pendingResume, addr := 327680, behind := 0 }
      ∧ (resumeCalled .idle).controller.dev0.call = some .idle ∧ (resumeCalled .idle).controller.dev0.call ≠ some .holdMax
      ∧ (resumeCalled .holdMax).controller.dev0.call = some .holdMax
      ∧ partOwned.controller.dev0.call ≠ some .holdMax := by decide +kernel

theorem witness_CommitExpiresWithoutASwitch :
    committing.commit = .pendingMark (inFlight (.atMark 4096 1)) 0
      ∧ (inFlight (.atMark 4096 1)).mode = .atMark 4096 1 ∧ ∀ g t, ready.commit ≠ .pendingMark g t :=
  ⟨rfl, rfl, fun _ _ h => nomatch h⟩

/-- A load that may begin, one whose boot area is not readable, and one with a write kept; a probe that times out with
nothing held, with a read held and with a write held. -/
theorem witness_LoaderStartsOrTimesOut :
    (waiting .array).loader.state = .waiting .reload 0 ∧ (waiting .array).fill.job = none
      ∧ readable (waiting .array) (0 * 4096) = true ∧ readable (waiting (.refused 0)) (0 * 4096) = false
      ∧ (waiting .array).tracker.dev0.kept = []
      ∧ ({ tracked .array with kept := [{ addr := 0, word := 0x3C55, hostWaits := false, untilState := false }] }
          : Tracker).kept ≠ []
      ∧ State.reset.loader.state = .waiting .powerOn 0
      ∧ State.reset.tracker.dev0.record = .probe ∧ State.reset.host.transaction = .none
      ∧ State.reset.host.resetAsserted = false
      ∧ (after (.hostRead 0x1FFFFFF .one) State.reset).host.transaction
          = .heldRead (BitVec.toNat (w := 25) 0x1FFFFFF) (burstWords .one)
      ∧ (after (.hostRead 0x1FFFFFF .one) State.reset).host.resetAsserted = false
      ∧ (after (.hostWrite 0x1FFFFFF 0x3C00) State.reset).host.transaction
          = .heldWrite (BitVec.toNat (w := 25) 0x1FFFFFF) 0x3C00
      ∧ (waiting .array).tracker.dev0.record ≠ .probe := by decide +kernel

theorem witness_LoaderStartsOrTimesOut_nothing_held :
    (∀ addr n, State.reset.host.transaction ≠ .heldRead addr n) ∧ ∀ addr w, State.reset.host.transaction ≠ .heldWrite addr w :=
  ⟨fun _ _ h => (nomatch h), fun _ _ h => (nomatch h)⟩

def loading (buffer : List Word) (n : Nat) : State := { ready with
  loader := { state := .reading .reload 0 buffer.length buffer, bootSector := 0 }
  bus := some (.loader buffer.length n) }

/-- A record of a type and a body, with its check value. -/
def recordOf (type : Word) (body : List Word) : List Word :=
  let head := [type, BitVec.ofNat 16 body.length] ++ body
  head ++ [crcWords head]

/-- An OVERLAY record for position 63, line 4,096, slot 2,047, with `inline` words. -/
def overlayRecord (inline : List Word) : List Word :=
  recordOf 0x0100 ([63, 1, 0, 4096, 1, 2047, 0, 0, 0, 0, if inline.isEmpty then 0 else 1] ++ inline)

/-- A valid record whose length fits. -/
def fits (r : List Word) : Bool :=
  recordFailure (loading [] 1) r == none && decide (recordLength r ≤ 4200) && decide (recordLength r + 3 ≤ r.length)

/-- The first word of a record, a length of 4,201, an END record with a wrong check value, and a valid record of each type,
an OVERLAY record without and with inline data; a read held. -/
theorem witness_LoaderReadsCheckAndEndTheLoad :
    (loading [] 1).loader.state = .reading .reload 0 0 [] ∧ (loading [] 1).bus = some (.loader 0 1)
      ∧ (loading [] 1).host.transaction = .none ∧ recordLength [0x0500, 4201] = 4201
      ∧ (loading [] 1).host.resetAsserted = false
      ∧ ({ (loading [] 1).host with transaction := .heldRead (BitVec.toNat (w := 25) 0) (burstWords .sixteen) } : HostFace).transaction
          = .heldRead (BitVec.toNat (w := 25) 0) (burstWords .sixteen)
      ∧ recordFailure (loading [] 1) [0x0500, 0x0000, 0x0000] = some .check
      ∧ fits (recordOf 0x0500 []) = true ∧ recordType (recordOf 0x0500 []) = 5
      ∧ validate true (loading [] 1).staged = none ∧ nextChecked (loading [] 1).staged 0 = none
      ∧ readInProgress (loading [] 1) = false
      ∧ fits (overlayRecord []) = true ∧ recordType (overlayRecord []) = 1 ∧ bodyWord (overlayRecord []) 10 = 0
      ∧ fits (overlayRecord (List.replicate 16 7)) = true ∧ bodyWord (overlayRecord (List.replicate 16 7)) 10 = 1
      ∧ fits (recordOf 0x0200 [0, 512, 1, 511, 1, 2]) = true ∧ recordType (recordOf 0x0200 [0, 512, 1]) = 2
      ∧ fits (recordOf 0x0300 [1, 1, 1, 15, 10, 5000, 100, 50000, 0xFFFF]) = true ∧ recordType (recordOf 0x0300 []) = 3
      ∧ fits (recordOf 0x0400 [0xFFFF, 3]) = true ∧ recordType (recordOf 0x0400 []) = 4 := by decide +kernel

/-- A record read in part, its length word the last one read and one word short of its end; one that ends at the area's last
word and one that ends a word after it; records at whose end the load has taken 128, or the area has one word left. -/
theorem witness_LoaderReadsCheckAndEndTheLoad_limits :
    let at' (index position : Nat) (buffer : List Word) (n : Nat) : State := { ready with
      loader := { state := .reading .reload index position buffer, bootSector := 0 }
      bus := some (.loader position n) }
    (∀ index position buffer n, (at' index position buffer n).loader.state = .reading .reload index position buffer
        ∧ (at' index position buffer n).bus = some (.loader position n))
      ∧ recordLength [0x0300, 9] = 9 ∧ ([0x0300, 9] : List Word).length < 9 + 3
      ∧ ((recordOf 0x0300 [1, 1, 1, 15, 10, 5000, 100, 50000, 0xFFFF]).dropLast).length = 9 + 3 - 1
      ∧ 65524 + 9 + 3 ≤ 65536 ∧ 65536 < 65525 + 9 + 3
      ∧ fits (recordOf 0x0400 [0xFFFF, 3]) = true ∧ 127 ≤ 127 ∧ 126 < 127
      ∧ 65530 + (recordOf 0x0400 [0xFFFF, 3]).length + 2 > 65536 := by
  refine ⟨fun _ _ _ _ => ⟨rfl, rfl⟩, ?_⟩
  decide +kernel

/-- The END record of a bank that fails, of one with a check value, and of one that passes while a read is in progress. -/
theorem witness_LoaderReadsCheckAndEndTheLoad_end :
    let s (staged : StagedBank) : State := { loading [] 1 with staged := staged, host := { ready.host with loadHold := true } }
    validate true (s (withStaged (replaceEntry 2097152 5 false none)).staged).staged
        = some { detail := 4, position := 3, address := some 2097152 }
      ∧ validate true (s (withStaged (replaceEntry 4096 5 false (some 1))).staged).staged = none
      ∧ nextChecked (s (withStaged (replaceEntry 4096 5 false (some 1))).staged).staged 0 = some 3
      ∧ (s ready.staged).host.loadHold = true
      ∧ readInProgress { s ready.staged with host := { reading.host with loadHold := true } } = true
      ∧ (s ready.staged).loader.state = .reading .reload 0 0 [] ∧ (s ready.staged).bus = some (.loader 0 1) := by
  decide +kernel

/-- The inline data of a valid OVERLAY record at the port, inside it and at its last word. -/
theorem witness_LoaderReadsCheckAndEndTheLoad_applying :
    let applying (written : Nat) : State := { ready with loader :=
      { state := .applying .reload 126 60000 (overlayRecord (List.replicate 16 7)) written, bootSector := 0 } }
    portChoice (applying 14) = some (.loader .reload 126 60000 (overlayRecord (List.replicate 16 7)) 14)
      ∧ portChoice (applying 15) = some (.loader .reload 126 60000 (overlayRecord (List.replicate 16 7)) 15)
      ∧ overlayEntry (overlayRecord (List.replicate 16 7)) = some (63, replaceEntry 4096 2047 false none)
      ∧ bodyWord (overlayRecord (List.replicate 16 7)) 4 * 16 = 16
      ∧ live (applying 15) (2047 + 15 / 16) = false ∧ stagedProtected (applying 15) (2047 + 15 / 16) = false := by
  decide +kernel

/-- The last inline word of a record the load's last, and of one that leaves a single word of the area. -/
theorem witness_LoaderReadsCheckAndEndTheLoad_applying_limits :
    let record := overlayRecord (List.replicate 16 7)
    let applying (index position : Nat) : State := { ready with loader :=
      { state := .applying .reload index position record 15, bootSector := 0 } }
    portChoice (applying 127 60000) = some (.loader .reload 127 60000 record 15)
      ∧ portChoice (applying 126 65535) = some (.loader .reload 126 65535 record 15) ∧ 126 < 127 ∧ 65536 < 65535 + 2
      ∧ live (applying 127 60000) (2047 + 15 / 16) = false ∧ stagedProtected (applying 127 60000) (2047 + 15 / 16) = false
      ∧ live (applying 126 65535) (2047 + 15 / 16) = false ∧ stagedProtected (applying 126 65535) (2047 + 15 / 16) = false := by
  decide +kernel

/-- A bank that passes, and one of each reason: the last line exceeded, the store exceeded, a line shared and a slot
shared. -/
theorem witness_ValidationPassesOnlyLawfulBanks :
    let bank (e f : Entry) : StagedBank := (ready.staged.setIfInBounds 3 (some e)).setIfInBounds 63 (some f)
    validate true (withStaged (replaceEntry 4096 2047 false none)).staged = none
      ∧ (replaceEntry 4096 2047 false none).lineCount ≥ 1
      ∧ validate true (bank blankEntry { trapEntry with firstLine := 2097151, lineCount := 2 })
          = some { detail := 4, position := 63, address := some 2097151 }
      ∧ validate true (bank blankEntry { replaceEntry 0 2047 false none with lineCount := 2 })
          = some { detail := 3, position := 63, address := none }
      ∧ validate true (bank blankEntry { trapEntry with firstLine := 4095, lineCount := 2 })
          = some { detail := 1, position := 63, address := some 4096 }
      ∧ validate true (bank (replaceEntry 4096 2047 false none) (replaceEntry 4097 2047 false none))
          = some { detail := 2, position := 63, address := none } := by decide +kernel

/-- The bank of no entry is lawful. -/
theorem witness_ValidationPassesOnlyLawfulBanks_lawful : Lawful true (Vector.replicate 64 none) := lawful_empty _

theorem witness_BanksStaySound : BanksSound ready ∧ ∃ t, step ready = .next t := by
  refine ⟨⟨?_, fun h => absurd rfl h, trivial⟩, _, rfl⟩
  have : entriesOf ready.active = Vector.replicate 64 none := by
    simp [entriesOf, ready, State.reset, State.powerOn, Vector.map_replicate]
  rw [this]
  exact lawful_empty _

theorem witness_NoticesAndStoreStaySound : NoticesSound ready.notices ∧ StoreSound ready ∧ ∃ t, step ready = .next t := by
  refine ⟨⟨by decide, fun k h => ?_, fun k h => ?_, by decide⟩, ⟨by decide, by decide, by decide, by decide, by decide, ?_⟩,
    _, rfl⟩
  · exact absurd h (by simp [ready, State.reset, State.powerOn, NoticeUnit.start])
  · simp [ready, State.reset, State.powerOn, NoticeUnit.start]
  · exact fun j buffer offset h => nomatch h

theorem witness_ProtectedSectorsStayProtected :
    ¬ IsPowerOn .hostReset ∧ lockAt { ready with locks := ready.locks.setIfInBounds 511 .frozen } 511 = .frozen
      ∧ HostTxn.pair 327690 0x3C22 327680 0x3CEE ∈ (after (.hostWrite 327680 0x3CEE) (with0 (.heldErase 327690))).hostPath
      ∧ HostTxn.pair 327690 0x3C22 327680 0x3CEE ∉ (with0 (.heldErase 327690)).hostPath := by
  refine ⟨id, ?_, ?_, ?_⟩ <;> decide +kernel

/-- CLEAR_OVERLAY is one switch, from a generation that wraps. -/
theorem witness_SwitchIsWhole :
    Instr.clearOverlay.wellFormed = true ∧ ¬ IsPowerOn .clearOverlay
      ∧ (after .clearOverlay { ready with generation := 0xFFFF }).generation = 0 :=
  ⟨rfl, id, by decide +kernel⟩

theorem witness_LiveSlotsChangeOnlyByFollowWrites :
    ¬ IsPowerOn .storePortAccess ∧ StoreSound (withActive (replaceEntry 4096 2047 false none))
      ∧ live (withActive (replaceEntry 4096 2047 false none)) 2047 = true
      ∧ portChoice (withActive (replaceEntry 4096 2047 false none)) = none := by
  refine ⟨id, ⟨by decide, by decide, by decide, by decide, by decide, fun j buffer offset h => nomatch h⟩, ?_, ?_⟩
  · decide +kernel
  · decide +kernel

end Sys2Proof.Tests
end

section
/-! PROOFS. A request that a free link hands to its command and that is answered in its first step (R191, R192). -/

namespace Sys2Proof.Machine

variable (s : State)

/-- R188, R191 to R193: a request of a known code, sent over a free link with the loader idle, is answered with what its
command replies; `t` is the state that the command leaves, but for the link. -/
theorem request_answered (t : State) (code tag : Byte) (args : List Byte) (status : RespStatus) (payload : List Byte)
    (hlink : LinkFree s) (hload : LoaderIdle s) (hargs : args.length ≤ Config.argumentLimit)
    (hcode : knownCodes.contains code = true)
    (hrun : runCommand (goodFrame code tag args) s.unlinked = .of ((status, payload), t.unlinked)) :
    request code tag args s = t.answered tag status payload := by
  have hserve : serve (goodFrame code tag args) s.unlinked = .reply (status, payload) t.unlinked :=
    (serve_known s.unlinked (goodFrame code tag args) rfl hcode (.inl hload)).trans hrun
  rw [request_free s code tag args hlink hargs, beginProcessing_reply _ _ _ _ hserve]
  exact placeResponse_unlinked t tag status payload

/-- R210: the first byte of the arguments, as an unsigned number. -/
@[simp] theorem argField_first (b : Byte) (rest : List Byte) : argField (b :: rest) 0 1 = b.toNat := by
  simp [argField, beNat]

end Sys2Proof.Machine
end

section
/-! PROOFS. CLEAR_STAGED (R31): the command by its argument, and what it comes to over a free link. -/

namespace Sys2Proof.Machine

variable (s : State)

/-! ### The command -/

/-- R210: CLEAR_STAGED has one argument byte. -/
theorem cmdClearStaged_wrong_length (args : List Byte) (h : args.length ≠ 1) :
    cmdClearStaged args s = ((.badArg, []), s) := if_pos h

theorem cmdClearStaged_all (h : s.commit = .idle) : cmdClearStaged [0xFF] s = ((.ok, []), emptyStaged s) := by
  simp [cmdClearStaged, h]

theorem cmdClearStaged_position (i : Byte) (h : s.commit = .idle) (hi : i.toNat ≤ 63) :
    cmdClearStaged [i] s = ((.ok, []), { s with staged := s.staged.setIfInBounds i.toNat none }) := by
  have not_all : i.toNat ≠ 255 := by omega
  have in_range : ¬ 63 < i.toNat := by omega
  simp [cmdClearStaged, h, not_all, in_range]

theorem cmdClearStaged_out_of_range (i : Byte) (h : s.commit = .idle) (hi : 63 < i.toNat) (hall : i ≠ 0xFF) :
    cmdClearStaged [i] s = ((.badArg, []), s) := by
  have not_all : i.toNat ≠ 255 := fun e => hall (BitVec.eq_of_toNat_eq e)
  simp [cmdClearStaged, h, not_all, hi]

/-- R31: making an absent position absent leaves the bank as it was. -/
theorem stagedBank_clear_absent (b : StagedBank) (i : Nat) (h : stagedAt b i = none) :
    b.setIfInBounds i none = b := by
  ext1 k hk
  rw [Vector.getElem_setIfInBounds]
  split
  · rename_i e
    subst e
    simpa [stagedAt, Vector.getElem?_eq_getElem hk] using h.symm
  · rfl

/-! ### The request -/

/-- R209: the command that the code of CLEAR_STAGED names. -/
theorem runCommand_clearStaged (tag : Byte) (args : List Byte) :
    runCommand (goodFrame codeClearStaged tag args) s = .of (cmdClearStaged args s) := rfl

/-- R31, R209: CLEAR_STAGED over a free link with the loader idle is answered with what its command replies. -/
theorem exec_clearStaged_answered (t : State) (tag : Byte) (args : List Byte) (status : RespStatus) (hlink : LinkFree s)
    (hload : LoaderIdle s) (hargs : args.length ≤ 1024)
    (hcmd : cmdClearStaged args s.unlinked = ((status, []), t.unlinked)) :
    exec (.clearStaged tag args) s = .next (t.answered tag status []) := by
  have hrun : runCommand (goodFrame codeClearStaged tag args) s.unlinked = .of ((status, []), t.unlinked) := by
    rw [runCommand_clearStaged, hcmd]
  exact congrArg Host.Outcome.next
    (request_answered s t codeClearStaged tag args status [] hlink hload hargs (by decide) hrun)

/-- Settles O8: CLEAR_STAGED empties the position, or every position, and refuses any other argument. -/
theorem clearStagedEmptiesPositions : Obligations.ClearStagedEmptiesPositions := by
  intro s tag hlink hload hidle
  have answered := fun t args status => exec_clearStaged_answered s t tag args status hlink hload
  have position : ∀ i : Byte, i.toNat ≤ 63 → exec (.clearStaged tag [i]) s
      = .next (State.answered tag .ok [] { s with staged := s.staged.setIfInBounds i.toNat none }) :=
    fun i hi => answered { s with staged := s.staged.setIfInBounds i.toNat none } [i] .ok (by simp)
      (cmdClearStaged_position s.unlinked i hidle hi)
  refine ⟨fun i hi => ⟨position i hi, fun habsent => ?_⟩, ?_, fun i hi hall => ?_, fun args hlen hfit => ?_⟩
  · rw [position i hi, stagedBank_clear_absent s.staged i.toNat habsent]
  · exact answered (emptyStaged s) [0xFF] .ok (by simp) (cmdClearStaged_all s.unlinked hidle)
  · exact answered s [i] .badArg (by simp) (cmdClearStaged_out_of_range s.unlinked i hidle hi hall)
  · exact answered s args .badArg hfit (cmdClearStaged_wrong_length s.unlinked args hlen)

end Sys2Proof.Machine
end

section
/-! PROOFS. COPY_ACTIVE (R32): the command, and the bank it stages. -/

namespace Sys2Proof.Machine

variable (s : State)

/-- R32: with no argument and no commit in flight, the ACTIVE bank's entries become the STAGED bank. -/
theorem cmdCopyActive_idle (h : s.commit = .idle) :
    cmdCopyActive [] s = ((.ok, []), { s with staged := entriesOf s.active }) := by
  simp [cmdCopyActive, h, entriesOf]

/-- R32: a position of the ACTIVE bank's entries holds the entry there without its hit count. -/
theorem stagedAt_entriesOf (b : ActiveBank) (i : Nat) : stagedAt (entriesOf b) i = (activeAt b i).map (·.entry) := by
  simp only [stagedAt, entriesOf, activeAt, Vector.getElem?_map]
  cases b[i]? <;> rfl

/-- R209: the command that the code of COPY_ACTIVE names. -/
theorem runCommand_copyActive (tag : Byte) (args : List Byte) :
    runCommand (goodFrame codeCopyActive tag args) s = .of (cmdCopyActive args s) := rfl

/-- R32, R209: COPY_ACTIVE over a free link with the loader idle and no commit in flight. -/
theorem exec_copyActive_idle (tag : Byte) (hlink : LinkFree s) (hload : LoaderIdle s) (hidle : s.commit = .idle) :
    exec (.copyActive tag []) s = .next (State.answered tag .ok [] { s with staged := entriesOf s.active }) := by
  let t : State := { s with staged := entriesOf s.active }
  have hrun : runCommand (goodFrame codeCopyActive tag []) s.unlinked = .of ((.ok, []), t.unlinked) := by
    rw [runCommand_copyActive, cmdCopyActive_idle s.unlinked hidle]
    rfl
  exact congrArg Host.Outcome.next
    (request_answered s t codeCopyActive tag [] .ok [] hlink hload (by decide) (by decide) hrun)

/-- Settles O9: the state COPY_ACTIVE leaves differs from the one before in the STAGED bank alone, which holds the ACTIVE
bank's entries. -/
theorem copyActiveCopiesTheActiveBank : Obligations.CopyActiveCopiesTheActiveBank := by
  intro s tag hlink hload hidle
  exact ⟨{ s with staged := entriesOf s.active }, exec_copyActive_idle s tag hlink hload hidle,
    fun i _ => stagedAt_entriesOf s.active i, rfl⟩

end Sys2Proof.Machine
end

section
/-! PROOFS. READ_POLICY and READ_TRACKER (R108, R91): two queries that name a device in their one argument byte and leave the
state as it is, and the layouts that say where a policy's fields and an erase's budget snapshot stand. -/

namespace Sys2Proof.Machine

variable (s : State)

/-! ### The device named -/

/-- R210: devices are numbered 0 and 1. -/
theorem devOfNumber_eq_none (n : Nat) (h : 1 < n) : devOfNumber n = none := by
  match n, h with
  | n + 2, _ => rfl

/-! ### The commands -/

/-- R108: the device's policy as it stands. -/
theorem cmdReadPolicy_device (b : Byte) (d : Dev) (h : devOfNumber b.toNat = some d) :
    cmdReadPolicy [b] s = ((.ok, policyBytes (s.policy.get d)), s) := by
  simp [cmdReadPolicy, h]

theorem cmdReadPolicy_no_device (b : Byte) (h : 1 < b.toNat) : cmdReadPolicy [b] s = ((.badArg, []), s) := by
  simp [cmdReadPolicy, devOfNumber_eq_none _ h]

/-- R91: the device's record as it stands. -/
theorem cmdReadTracker_device (b : Byte) (d : Dev) (h : devOfNumber b.toNat = some d) :
    cmdReadTracker [b] s = ((.ok, recordBytes (s.tracker.get d).record), s) := by
  simp [cmdReadTracker, h]

/-! ### The layouts (12.3) -/

/-- R210: a flag's byte. -/
theorem be8_boolNat (b : Bool) : be8 (boolNat b) = [if b then 1 else 0] := by
  cases b <;> rfl

/-- Section 12.3: nineteen bytes stand before the budget snapshot, whatever the record's state. -/
theorem recordBytes_snapshot (r : Record) :
    (recordBytes r)[19]? = some (BitVec.ofNat 8 ((r.erase.map (·.snapshot)).getD 0)) := rfl

/-! ### The requests -/

/-- R209: the commands that the two codes name. -/
theorem runCommand_readPolicy (tag : Byte) (args : List Byte) :
    runCommand (goodFrame codeReadPolicy tag args) s = .of (cmdReadPolicy args s) := rfl

theorem runCommand_readTracker (tag : Byte) (args : List Byte) :
    runCommand (goodFrame codeReadTracker tag args) s = .of (cmdReadTracker args s) := rfl

/-- R108, R209: READ_POLICY over a free link with the loader idle is answered with what its command replies. -/
theorem exec_readPolicy_answered (tag b : Byte) (status : RespStatus) (payload : List Byte) (hlink : LinkFree s)
    (hload : LoaderIdle s) (hcmd : cmdReadPolicy [b] s.unlinked = ((status, payload), s.unlinked)) :
    exec (.readPolicy tag [b]) s = .next (s.answered tag status payload) := by
  have hrun : runCommand (goodFrame codeReadPolicy tag [b]) s.unlinked = .of ((status, payload), s.unlinked) := by
    rw [runCommand_readPolicy, hcmd]
  exact congrArg Host.Outcome.next
    (request_answered s s codeReadPolicy tag [b] status payload hlink hload (by simp [Config.argumentLimit]) (by decide) hrun)

/-- R91, R209: READ_TRACKER over a free link with the loader idle, for a device there is. -/
theorem exec_readTracker_device (tag b : Byte) (d : Dev) (hlink : LinkFree s) (hload : LoaderIdle s)
    (hd : devOfNumber b.toNat = some d) :
    exec (.readTracker tag [b]) s = .next (s.answered tag .ok (recordBytes (s.tracker.get d).record)) := by
  have hrun : runCommand (goodFrame codeReadTracker tag [b]) s.unlinked
      = .of ((.ok, recordBytes (s.tracker.get d).record), s.unlinked) := by
    rw [runCommand_readTracker, cmdReadTracker_device s.unlinked b d hd]
    rfl
  exact congrArg Host.Outcome.next
    (request_answered s s codeReadTracker tag [b] .ok _ hlink hload (by simp [Config.argumentLimit]) (by decide) hrun)

/-- R91: in a record with erase fields, READ_TRACKER's twentieth byte is the snapshot of the budget. -/
theorem exec_readTracker_snapshot (tag b : Byte) (d : Dev) (e : EraseFields) (hlink : LinkFree s) (hload : LoaderIdle s)
    (hd : devOfNumber b.toNat = some d) (he : (s.tracker.get d).record.erase = some e) :
    ∃ payload, exec (.readTracker tag [b]) s = .next (s.answered tag .ok payload)
      ∧ payload[19]? = some (BitVec.ofNat 8 e.snapshot) := by
  refine ⟨_, exec_readTracker_device s tag b d hlink hload hd, ?_⟩
  rw [recordBytes_snapshot, he]
  rfl

/-- Settles O19: the payload is the policy's layout for either device, and a third device is refused; the budget snapshot
stands in READ_TRACKER's record. -/
theorem readPolicyReportsThePolicy : Obligations.ReadPolicyReportsThePolicy := by
  intro s tag hlink hload bytes
  have layout : ∀ p : Policy, policyBytes p = bytes p := by
    intro p
    rw [policyBytes, be8_boolNat]
    cases p with
    | mk missPolicy => cases missPolicy <;> rfl
  have answered : ∀ (b : Byte) (d : Dev), devOfNumber b.toNat = some d →
      exec (.readPolicy tag [b]) s = .next (s.answered tag .ok (bytes (s.policy.get d))) := by
    intro b d hd
    rw [← layout]
    exact exec_readPolicy_answered s tag b .ok _ hlink hload (cmdReadPolicy_device s.unlinked b d hd)
  refine ⟨answered 0 .dev0 rfl, answered 1 .dev1 rfl, fun b hb => ?_, fun e he => ?_, fun e he => ?_⟩
  · exact exec_readPolicy_answered s tag b .badArg [] hlink hload (cmdReadPolicy_no_device s.unlinked b hb)
  · exact exec_readTracker_snapshot s tag 0 .dev0 e hlink hload rfl he
  · exact exec_readTracker_snapshot s tag 1 .dev1 e hlink hload rfl he

end Sys2Proof.Machine
end

section
/-! PROOFS. The requests that read and edit the notice unit: POP_NOTICES, READ_TALLIES and CLEAR_TALLIES (R161 to R163), with
the summary that reports the queue's length (R201). -/

namespace Sys2Proof.Machine

variable (s : State)

/-! ### Requests answered while the loader runs -/

/-- R193: `request_answered` for a command that the loader's running does not refuse, whatever the loader does. -/
theorem request_answered_of_loaderAnswers (t : State) (code tag : Byte) (args : List Byte) (status : RespStatus)
    (payload : List Byte) (hlink : LinkFree s) (hload : loaderAnswers code = true) (hargs : args.length ≤ Config.argumentLimit)
    (hcode : knownCodes.contains code = true)
    (hrun : runCommand (goodFrame code tag args) s.unlinked = .of ((status, payload), t.unlinked)) :
    request code tag args s = t.answered tag status payload := by
  have hserve : serve (goodFrame code tag args) s.unlinked = .reply (status, payload) t.unlinked :=
    (serve_known s.unlinked (goodFrame code tag args) rfl hcode (.inr hload)).trans hrun
  rw [request_free s code tag args hlink hargs, beginProcessing_reply _ _ _ _ hserve]
  exact placeResponse_unlinked t tag status payload

/-! ### The commands -/

/-- R161: what a POP_NOTICES of `n` leaves: the `n` oldest records are gone from the queue. -/
def popNotices (n : Nat) : State := { s with notices := { s.notices with queue := s.notices.queue.drop n } }

/-- R161, 12.3: the payload of a POP_NOTICES of `n`: the number left, the number taken, and the records taken. -/
def poppedBytes (n : Nat) : List Byte :=
  be8 (s.notices.queue.length - n) ++ be8 (min n s.notices.queue.length) ++ (s.notices.queue.take n).flatMap noticeBytes

/-- R163: every tally and the overflow count at 0. -/
def clearTallies : State := { s with notices := { s.notices with tally := Vector.replicate 18 0, overflow := 0 } }

theorem cmdPopNotices_in_range (n : Byte) (hlow : 1 ≤ n.toNat) (hhigh : n.toNat ≤ 32) :
    cmdPopNotices [n] s = ((.ok, poppedBytes s n.toNat), popNotices s n.toNat) := by
  have in_range : ¬ (n.toNat = 0 ∨ n.toNat > 32) := by omega
  simp only [cmdPopNotices, List.length_singleton, ne_eq, not_true_eq_false, if_false, argField_first, in_range,
    List.length_drop, List.length_take, poppedBytes, popNotices]

theorem cmdPopNotices_out_of_range (n : Byte) (h : n.toNat = 0 ∨ 32 < n.toNat) :
    cmdPopNotices [n] s = ((.badArg, []), s) := by
  simp [cmdPopNotices, h]

/-- R210: READ_TALLIES and CLEAR_TALLIES have no arguments. -/
theorem cmdReadTallies_wrong_length (args : List Byte) (h : args ≠ []) : cmdReadTallies args s = ((.badArg, []), s) :=
  if_pos (mt List.length_eq_zero_iff.mp h)

theorem cmdClearTallies_wrong_length (args : List Byte) (h : args ≠ []) : cmdClearTallies args s = ((.badArg, []), s) :=
  if_pos (mt List.length_eq_zero_iff.mp h)

/-- R162: one byte for each tally, one for the overflow count and one for each flag of the enable set. -/
theorem cmdReadTallies_replies : cmdReadTallies [] s
    = ((.ok, (s.notices.tally.toList.map fun n => BitVec.ofNat 8 n) ++ [BitVec.ofNat 8 s.notices.overflow]
        ++ s.notices.enabled.toList.map fun b => if b then (1 : Byte) else 0), s) := by
  simp only [cmdReadTallies, be8_boolNat, List.map_eq_flatMap]
  rfl

theorem cmdClearTallies_clears : cmdClearTallies [] s = ((.ok, []), clearTallies s) := rfl

theorem cmdGetStatus_replies : cmdGetStatus [] s = ((.ok, summaryBytes s), s) := rfl

/-! ### The layouts (12.2, 12.3) -/

/-- R201: seven bytes stand before the queue's length. -/
theorem summaryBytes_queue_length : (summaryBytes s)[7]? = some (BitVec.ofNat 8 s.notices.queue.length) := rfl

/-- Section 12.2: the bits of the presence mask. -/
theorem ite_isSome_eq_ite_none {α : Type} [DecidableEq α] (o : Option α) (bit : Nat) :
    (if o.isSome then bit else 0) = if o = none then 0 else bit := by
  cases o <;> rfl

/-- R210: the device byte, which an absent device leaves at 0. -/
theorem deviceByte_eq (o : Option Dev) : (o.map devNumber).getD 0 = if o = some .dev1 then 1 else 0 := by
  match o with
  | none => rfl
  | some .dev0 => rfl
  | some .dev1 => rfl

/-! ### The requests -/

/-- R209: the commands that the four codes name. -/
theorem runCommand_popNotices (tag : Byte) (args : List Byte) :
    runCommand (goodFrame codePopNotices tag args) s = .of (cmdPopNotices args s) := rfl

theorem runCommand_readTallies (tag : Byte) (args : List Byte) :
    runCommand (goodFrame codeReadTallies tag args) s = .of (cmdReadTallies args s) := rfl

theorem runCommand_clearTallies (tag : Byte) (args : List Byte) :
    runCommand (goodFrame codeClearTallies tag args) s = .of (cmdClearTallies args s) := rfl

theorem runCommand_getStatus (tag : Byte) (args : List Byte) :
    runCommand (goodFrame codeGetStatus tag args) s = .of (cmdGetStatus args s) := rfl

/-- R161, R193: POP_NOTICES over a free link is answered with what its command replies, while the loader runs too. -/
theorem exec_popNotices_answered (t : State) (tag n : Byte) (status : RespStatus) (payload : List Byte) (hlink : LinkFree s)
    (hcmd : cmdPopNotices [n] s.unlinked = ((status, payload), t.unlinked)) :
    exec (.popNotices tag [n]) s = .next (t.answered tag status payload) := by
  have hrun : runCommand (goodFrame codePopNotices tag [n]) s.unlinked = .of ((status, payload), t.unlinked) := by
    rw [runCommand_popNotices, hcmd]
  exact congrArg Host.Outcome.next (request_answered_of_loaderAnswers s t codePopNotices tag [n] status payload hlink
    (by decide) (by simp [Config.argumentLimit]) (by decide) hrun)

/-- R162, R209: READ_TALLIES over a free link with the loader idle is answered with what its command replies. -/
theorem exec_readTallies_answered (tag : Byte) (args : List Byte) (status : RespStatus) (payload : List Byte)
    (hlink : LinkFree s) (hload : LoaderIdle s) (hargs : args.length ≤ 1024)
    (hcmd : cmdReadTallies args s.unlinked = ((status, payload), s.unlinked)) :
    exec (.readTallies tag args) s = .next (s.answered tag status payload) := by
  have hrun : runCommand (goodFrame codeReadTallies tag args) s.unlinked = .of ((status, payload), s.unlinked) := by
    rw [runCommand_readTallies, hcmd]
  exact congrArg Host.Outcome.next
    (request_answered s s codeReadTallies tag args status payload hlink hload hargs (by decide) hrun)

/-- R163, R209: CLEAR_TALLIES over a free link with the loader idle is answered with what its command replies. -/
theorem exec_clearTallies_answered (t : State) (tag : Byte) (args : List Byte) (status : RespStatus)
    (hlink : LinkFree s) (hload : LoaderIdle s) (hargs : args.length ≤ 1024)
    (hcmd : cmdClearTallies args s.unlinked = ((status, []), t.unlinked)) :
    exec (.clearTallies tag args) s = .next (t.answered tag status []) := by
  have hrun : runCommand (goodFrame codeClearTallies tag args) s.unlinked = .of ((status, []), t.unlinked) := by
    rw [runCommand_clearTallies, hcmd]
  exact congrArg Host.Outcome.next
    (request_answered s t codeClearTallies tag args status [] hlink hload hargs (by decide) hrun)

/-- R201, R193: GET_STATUS over a free link is answered with the summary, while the loader runs too. -/
theorem exec_getStatus_answered (tag : Byte) (hlink : LinkFree s) :
    exec (.getStatus tag []) s = .next (s.answered tag .ok (summaryBytes s)) := by
  have hrun : runCommand (goodFrame codeGetStatus tag []) s.unlinked = .of ((.ok, summaryBytes s), s.unlinked) := by
    rw [runCommand_getStatus, cmdGetStatus_replies]
    rfl
  exact congrArg Host.Outcome.next (request_answered_of_loaderAnswers s s codeGetStatus tag [] .ok (summaryBytes s) hlink
    (by decide) (by decide) (by decide) hrun)

/-- Settles O20: a count in range takes that many records off the head, and the layout of a record is that of 12.2, the
kind's code being its place in R154; any other count is refused. -/
theorem popNoticesReturnsTheOldest : Obligations.PopNoticesReturnsTheOldest := by
  intro s tag n hlink kinds record
  have kind_place : ∀ k : NoticeKind, kinds.idxOf k = k.code := by
    intro k
    cases k <;> rfl
  have layout : noticeBytes = record := by
    funext x
    simp only [noticeBytes, record, kind_place, ite_isSome_eq_ite_none, deviceByte_eq]
  refine ⟨fun hlow hhigh => ?_, fun hout => ?_⟩
  · rw [← layout]
    exact exec_popNotices_answered s (popNotices s n.toNat) tag n .ok (poppedBytes s n.toNat) hlink
      (cmdPopNotices_in_range s.unlinked n hlow hhigh)
  · have out_of_range : n.toNat = 0 ∨ 32 < n.toNat := hout.imp_left fun h => by rw [h]; rfl
    exact exec_popNotices_answered s s tag n .badArg [] hlink (cmdPopNotices_out_of_range s.unlinked n out_of_range)

/-- Settles O21: the reply is taken from the state as it stands and the state is kept; GET_STATUS carries the queue's length. -/
theorem readTalliesReportsTheTallies : Obligations.ReadTalliesReportsTheTallies := by
  intro s tag hlink hload
  refine ⟨?_, ⟨summaryBytes s, exec_getStatus_answered s tag hlink, summaryBytes_queue_length s⟩, fun args hne hfit => ?_⟩
  · exact exec_readTallies_answered s tag [] .ok _ hlink hload (by decide) (cmdReadTallies_replies s.unlinked)
  · exact exec_readTallies_answered s tag args .badArg [] hlink hload hfit (cmdReadTallies_wrong_length s.unlinked args hne)

/-- Settles O22: the state CLEAR_TALLIES leaves differs from the one before in the tallies and the overflow count alone, so
INC_N, which reads the queue, is kept. -/
theorem clearTalliesClearsOnlyTheCounts : Obligations.ClearTalliesClearsOnlyTheCounts := by
  intro s tag hlink hload
  refine ⟨⟨clearTallies s, ?_, rfl, rfl⟩, fun args hne hfit => ?_⟩
  · exact exec_clearTallies_answered s (clearTallies s) tag [] .ok hlink hload (by decide) (cmdClearTallies_clears s.unlinked)
  · exact exec_clearTallies_answered s s tag args .badArg hlink hload hfit (cmdClearTallies_wrong_length s.unlinked args hne)

end Sys2Proof.Machine
end

section
/-! PROOFS. Validation (R35): what its two runs of positions are, and that it passes exactly the lawful banks. -/

namespace Sys2Proof.Machine

set_option Elab.async false

/-! ### The present positions of a bank -/

theorem mem_presentFrom {α : Type} (n : Nat) (l : List (Option α)) (i : Nat) (a : α) :
    (i, a) ∈ presentFrom n l ↔ n ≤ i ∧ (l[i - n]?).join = some a := by
  induction l generalizing n with
  | nil => simp [presentFrom]
  | cons x l ih =>
    have later : i ≠ n → ((x :: l)[i - n]? = l[i - (n + 1)]? ∨ i < n) := fun h => by
      by_cases hi : i < n
      · exact .inr hi
      · exact .inl (by rw [show i - n = (i - (n + 1)) + 1 by omega]; rfl)
    by_cases hi : i = n
    · subst hi
      cases x <;> simp [presentFrom, ih]
      exact eq_comm
    · rcases later hi with h | h
      · rw [h]
        cases x <;> simp [presentFrom, ih, hi] <;> omega
      · cases x <;> simp [presentFrom, ih, hi] <;> omega

/-- The present positions stand in ascending order. -/
theorem presentFrom_ascending {α : Type} (n : Nat) (l : List (Option α)) :
    (presentFrom n l).Pairwise fun p q => p.1 < q.1 := by
  induction l generalizing n with
  | nil => exact .nil
  | cons x l ih =>
    cases x with
    | none => exact ih (n + 1)
    | some a => exact .cons (fun p hp => ((mem_presentFrom _ _ _ _).mp hp).1) (ih (n + 1))

theorem mem_stagedEntries (b : StagedBank) (i : Nat) (e : Entry) : (i, e) ∈ stagedEntries b ↔ stagedAt b i = some e := by
  simp [stagedEntries, mem_presentFrom, stagedAt]

theorem stagedEntries_ascending (b : StagedBank) : (stagedEntries b).Pairwise fun p q => p.1 < q.1 :=
  presentFrom_ascending _ _

/-- Two runs of positions in ascending order with the same members are the same. -/
theorem ascending_ext {l m : List (Nat × Entry)} (hl : l.Pairwise fun p q => p.1 < q.1)
    (hm : m.Pairwise fun p q => p.1 < q.1) (h : ∀ p, p ∈ l ↔ p ∈ m) : l = m := by
  have irrefl : Std.Irrefl fun p q : Nat × Entry => p.1 < q.1 := ⟨fun p => Nat.lt_irrefl p.1⟩
  have antisymm : Std.Antisymm fun p q : Nat × Entry => p.1 < q.1 := ⟨fun _ _ h g => absurd h (Nat.lt_asymm g)⟩
  exact hl.eq_of_mem_iff hm h

/-! ### The four checks -/

theorem runsMeet_iff (a n b m : Nat) : runsMeet a n b m = true ↔ ∃ x, (a ≤ x ∧ x < a + n) ∧ b ≤ x ∧ x < b + m := by
  simp only [runsMeet, decide_eq_true_eq]
  constructor
  · intro h
    exact ⟨max a b, by omega⟩
  · rintro ⟨x, h⟩
    omega

theorem linesMeet_iff (p q : Entry) : linesMeet p q = true ↔ ∃ x, p.covers x = true ∧ q.covers x = true := by
  simp [linesMeet, runsMeet_iff, Entry.covers]

/-- R35: the lowest common line of two entries that meet is where the higher of the two begins. -/
theorem linesMeet_lowest {p q : Entry} (h : linesMeet p q = true) :
    p.covers (max p.firstLine q.firstLine) = true ∧ q.covers (max p.firstLine q.firstLine) = true
      ∧ ∀ x, p.covers x = true → q.covers x = true → max p.firstLine q.firstLine ≤ x := by
  simp only [linesMeet, runsMeet, Entry.covers, decide_eq_true_eq] at h ⊢
  exact ⟨by omega, by omega, fun x h1 h2 => by omega⟩

theorem slotsMeet_iff (p q : Entry) : slotsMeet p q = true ↔ ∃ n, p.references n = true ∧ q.references n = true := by
  simp only [slotsMeet, Entry.references]
  rcases p.slotRun with _ | ⟨a, n⟩
  · simp
  · rcases q.slotRun with _ | ⟨b, m⟩
    · simp
    · simp [runsMeet_iff]

theorem lineRangeFails_iff (two : Bool) (e : Entry) : lineRangeFails two e = true ↔
    2097152 < e.firstLine + e.lineCount ∨ (e.covers 1048575 = true ∧ e.covers 1048576 = true)
      ∨ (two = false ∧ 1048576 < e.firstLine + e.lineCount) := by
  simp [lineRangeFails, Config.lines, Config.deviceLines, or_assoc]

theorem slotRangeFails_iff (e : Entry) : slotRangeFails e = true ↔
    ∃ first follow check, e.mode = .replace first follow check ∧ 2048 < first + e.lineCount := by
  simp only [slotRangeFails, Entry.slotRun, Config.slots]
  rcases e.mode with _ | _ | _ <;> simp

theorem references_iff (e : Entry) (n : Nat) : e.references n = true ↔
    ∃ first follow check, e.mode = .replace first follow check ∧ first ≤ n ∧ n < first + e.lineCount := by
  simp only [Entry.references, Entry.slotRun]
  rcases e.mode with _ | _ | _ <;> simp

/-- R35: a position passes its four checks. -/
theorem entryFailure_none_iff (two : Bool) (lower : List (Nat × Entry)) (i : Nat) (p : Entry) :
    entryFailure two lower i p = none ↔ lineRangeFails two p = false ∧ slotRangeFails p = false
      ∧ ∀ q ∈ lower, linesMeet p q.2 = false ∧ slotsMeet p q.2 = false := by
  simp only [entryFailure]
  split
  · simp [*]
  · rename_i hline
    split
    · simp [*]
    · rename_i hslot
      split
      · rename_i q hq
        have meet := List.find?_some hq
        have mem := List.mem_of_find?_eq_some hq
        simp only [reduceCtorEq, false_iff]
        rintro ⟨-, -, h⟩
        exact absurd meet (by simp [(h q mem).1])
      · rename_i hf
        have apart : ∀ q ∈ lower, linesMeet p q.2 = false := by simpa using hf
        by_cases hany : lower.any (fun q => slotsMeet p q.2) = true
        · simp only [hany, if_true, reduceCtorEq, false_iff]
          rintro ⟨-, -, h⟩
          obtain ⟨q, hq, meet⟩ := List.any_eq_true.mp hany
          exact absurd meet (by simp [(h q hq).2])
        · have clear : ∀ q ∈ lower, slotsMeet p q.2 = false := by simpa using hany
          rw [if_neg hany]
          exact iff_of_true rfl ⟨by simpa using hline, by simpa using hslot, fun q hq => ⟨apart q hq, clear q hq⟩⟩

/-! ### The run of positions -/

/-- R35: validation fails at the first position that fails, whatever stands above it. -/
theorem validateFrom_some (two : Bool) (r : Rejection) (lower l : List (Nat × Entry)) :
    validateFrom two lower l = some r → ∃ pre i p post, l = pre ++ (i, p) :: post
      ∧ validateFrom two lower pre = none ∧ entryFailure two (lower ++ pre) i p = some r := by
  induction l generalizing lower with
  | nil => exact nofun
  | cons x l ih =>
    obtain ⟨i, p⟩ := x
    intro h
    rcases hf : entryFailure two lower i p with _ | r'
    · simp only [validateFrom, hf] at h
      obtain ⟨pre, j, q, post, rfl, passes, fails⟩ := ih _ h
      refine ⟨(i, p) :: pre, j, q, post, rfl, ?_, by simpa using fails⟩
      simpa only [validateFrom, hf] using passes
    · simp only [validateFrom, hf, Option.some.injEq] at h
      subst h
      exact ⟨[], i, p, l, rfl, rfl, by simpa using hf⟩

theorem validateFrom_none_iff (two : Bool) (lower l : List (Nat × Entry)) :
    validateFrom two lower l = none ↔
      ∀ pre i p post, l = pre ++ (i, p) :: post → entryFailure two (lower ++ pre) i p = none := by
  constructor
  · intro h pre
    induction pre generalizing lower l with
    | nil =>
      rintro i p post rfl
      rcases hf : entryFailure two lower i p with _ | r
      · simpa using hf
      · simp [validateFrom, hf] at h
    | cons x pre ih =>
      rintro i p post rfl
      have passes : validateFrom two (lower ++ [x]) (pre ++ (i, p) :: post) = none := by
        rcases hf : entryFailure two lower x.1 x.2 with _ | r <;> simp_all [validateFrom]
      simpa using ih _ _ passes i p post rfl
  · intro h
    rcases hv : validateFrom two lower l with _ | r
    · rfl
    · obtain ⟨pre, i, p, post, split, -, fails⟩ := validateFrom_some two r lower l hv
      exact absurd (h pre i p post split) (by simp [fails])

/-- The positions below one of a run in ascending order are those that stand before it. -/
theorem ascending_split {pre post : List (Nat × Entry)} {i : Nat} {p : Entry}
    (h : (pre ++ (i, p) :: post).Pairwise fun p q => p.1 < q.1) (q : Nat × Entry) :
    q ∈ pre ↔ q ∈ pre ++ (i, p) :: post ∧ q.1 < i := by
  obtain ⟨-, above, before⟩ := List.pairwise_append.mp h
  have after := (List.pairwise_cons.mp above).1
  constructor
  · exact fun hq => ⟨List.mem_append_left _ hq, before q hq (i, p) (List.mem_cons_self ..)⟩
  · rintro ⟨hq, hlt⟩
    rcases List.mem_append.mp hq with hq | hq
    · exact hq
    · rcases List.mem_cons.mp hq with rfl | hq
      · exact absurd hlt (Nat.lt_irrefl _)
      · exact absurd (after q hq) (Nat.lt_asymm hlt)

/-- R35: a bank passes when each of its entries passes its own checks and meets none below it. -/
theorem validate_none_iff (two : Bool) (b : StagedBank) : validate two b = none ↔
    ∀ i p, stagedAt b i = some p → lineRangeFails two p = false ∧ slotRangeFails p = false
      ∧ ∀ j q, j < i → stagedAt b j = some q → linesMeet p q = false ∧ slotsMeet p q = false := by
  simp only [validate, validateFrom_none_iff, entryFailure_none_iff, List.nil_append]
  constructor
  · intro h i p hp
    obtain ⟨pre, post, split⟩ := List.mem_iff_append.mp ((mem_stagedEntries b i p).mpr hp)
    obtain ⟨line, slot, apart⟩ := h pre i p post split
    refine ⟨line, slot, fun j q hj hq => apart (j, q) ?_⟩
    rw [ascending_split (split ▸ stagedEntries_ascending b), ← split]
    exact ⟨(mem_stagedEntries b j q).mpr hq, hj⟩
  · intro h pre i p post split
    have hp : stagedAt b i = some p := by
      rw [← mem_stagedEntries, split]
      simp
    obtain ⟨line, slot, apart⟩ := h i p hp
    refine ⟨line, slot, fun q hq => ?_⟩
    obtain ⟨mem, below⟩ := (ascending_split (split ▸ stagedEntries_ascending b) q).mp hq
    rw [← split] at mem
    exact apart q.1 q.2 below ((mem_stagedEntries b q.1 q.2).mp mem)

/-! ### Lawful banks -/

theorem devOfLine_dev0_iff (line : Nat) : devOfLine line = .dev0 ↔ line < 1048576 := by
  unfold devOfLine
  split <;> simp_all [Config.deviceLines]

theorem devOfLine_dev1_iff (line : Nat) : devOfLine line = .dev1 ↔ 1048576 ≤ line := by
  unfold devOfLine
  split <;> simp_all [Config.deviceLines]

/-- R6: an entry whose lines pass check 1 lies within one installed device. -/
theorem device_of_lineRange {two : Bool} {e : Entry} (h : lineRangeFails two e = false) :
    ∃ d : Dev, (d = .dev0 ∨ two = true) ∧ ∀ line, e.covers line = true → line < Config.lines ∧ devOfLine line = d := by
  have ok := mt (lineRangeFails_iff two e).mpr (by simp [h])
  simp only [Entry.covers, decide_eq_true_eq, not_or, not_and, Nat.not_lt] at ok
  obtain ⟨space, cross, absent⟩ := ok
  simp only [Entry.covers, decide_eq_true_eq, Config.lines]
  by_cases hd : e.firstLine + e.lineCount ≤ 1048576
  · exact ⟨.dev0, .inl rfl, fun line hl => ⟨by omega, (devOfLine_dev0_iff _).mpr (by omega)⟩⟩
  · refine ⟨.dev1, .inr ?_, fun line hl => ⟨by omega, (devOfLine_dev1_iff _).mpr (by omega)⟩⟩
    cases two with
    | true => rfl
    | false => exact absurd (absent rfl) (by omega)

theorem lineRange_of_device {two : Bool} {e : Entry} (hc : 1 ≤ e.lineCount) (d : Dev) (hd : d = .dev0 ∨ two = true)
    (h : ∀ line, e.covers line = true → line < Config.lines ∧ devOfLine line = d) : lineRangeFails two e = false := by
  rw [← Bool.not_eq_true, lineRangeFails_iff]
  simp only [Entry.covers, decide_eq_true_eq, Config.lines] at h ⊢
  have last := h (e.firstLine + e.lineCount - 1) (by omega)
  rintro (space | ⟨c1, c2⟩ | ⟨rfl, absent⟩)
  · omega
  · have low : d = .dev0 := (h _ c1).2.symm.trans ((devOfLine_dev0_iff _).mpr (by decide))
    have high : d = .dev1 := (h _ c2).2.symm.trans ((devOfLine_dev1_iff _).mpr (by decide))
    exact nomatch low.symm.trans high
  · obtain rfl := hd.resolve_right (by decide)
    have below := (devOfLine_dev0_iff _).mp last.2
    omega

theorem lawful_of_validate (two : Bool) (b : StagedBank) (h : validate two b = none) : Lawful two b := by
  rw [validate_none_iff] at h
  have apart : ∀ i j p q, stagedAt b i = some p → stagedAt b j = some q → i ≠ j →
      linesMeet p q = false ∧ slotsMeet p q = false := by
    intro i j p q hp hq hne
    rcases Nat.lt_or_gt_of_ne hne with hlt | hlt
    · obtain ⟨hl, hs⟩ := (h j q hq).2.2 i p hlt hp
      simp only [← Bool.not_eq_true, linesMeet_iff, slotsMeet_iff] at hl hs ⊢
      exact ⟨fun ⟨x, h1, h2⟩ => hl ⟨x, h2, h1⟩, fun ⟨x, h1, h2⟩ => hs ⟨x, h2, h1⟩⟩
    · exact (h i p hp).2.2 j q hlt hq
  constructor
  · intro i j p q line hp hq h1 h2
    by_contra hne
    exact absurd ((linesMeet_iff p q).mpr ⟨line, h1, h2⟩) (by simp [(apart i j p q hp hq hne).1])
  · intro i j p q slot hp hq h1 h2
    by_contra hne
    exact absurd ((slotsMeet_iff p q).mpr ⟨slot, h1, h2⟩) (by simp [(apart i j p q hp hq hne).2])
  · exact fun i p hp => device_of_lineRange (h i p hp).1
  · intro i p slot hp href
    have inStore := mt (slotRangeFails_iff p).mpr (by simp [(h i p hp).2.1])
    obtain ⟨first, follow, check, mode, -, hlt⟩ := (references_iff p slot).mp href
    simp only [not_exists, not_and, Nat.not_lt] at inStore
    exact Nat.lt_of_lt_of_le hlt (inStore first follow check mode)

theorem validate_of_lawful (two : Bool) (b : StagedBank) (hc : ∀ i e, stagedAt b i = some e → 1 ≤ e.lineCount)
    (h : Lawful two b) : validate two b = none := by
  rw [validate_none_iff]
  intro i p hp
  obtain ⟨d, hd, cover⟩ := h.devices i p hp
  refine ⟨lineRange_of_device (hc i p hp) d hd cover, ?_, fun j q hj hq => ⟨?_, ?_⟩⟩
  · rw [← Bool.not_eq_true, slotRangeFails_iff]
    rintro ⟨first, follow, check, mode, beyond⟩
    have count := hc i p hp
    have last := h.store i p (first + p.lineCount - 1) hp
      ((references_iff p _).mpr ⟨first, follow, check, mode, by omega, by omega⟩)
    simp only [Config.slots] at last
    omega
  · rw [← Bool.not_eq_true, linesMeet_iff]
    rintro ⟨x, h1, h2⟩
    exact absurd (h.lines i j p q x hp hq h1 h2) (by omega)
  · rw [← Bool.not_eq_true, slotsMeet_iff]
    rintro ⟨x, h1, h2⟩
    exact absurd (h.slots i j p q x hp hq h1 h2) (by omega)

/-! ### The failure -/

/-- R35: what a failing position is reported with: the first reason of the four that holds, and its address. -/
theorem entryFailure_some {two : Bool} {lower : List (Nat × Entry)} {i : Nat} {e : Entry} {r : Rejection}
    (asc : lower.Pairwise fun p q => p.1 < q.1) (h : entryFailure two lower i e = some r) :
    r.position = i ∧
    ((r.detail = 4 ∧ lineRangeFails two e = true ∧ r.address = some e.firstLine)
    ∨ (r.detail = 3 ∧ ¬ lineRangeFails two e = true ∧ slotRangeFails e = true ∧ r.address = none)
    ∨ (r.detail = 1 ∧ ¬ lineRangeFails two e = true ∧ ¬ slotRangeFails e = true ∧ ∃ q ∈ lower, linesMeet e q.2 = true
        ∧ r.address = some (max e.firstLine q.2.firstLine) ∧ ∀ p ∈ lower, linesMeet e p.2 = true → q.1 ≤ p.1)
    ∨ (r.detail = 2 ∧ ¬ lineRangeFails two e = true ∧ ¬ slotRangeFails e = true ∧ (∀ p ∈ lower, ¬ linesMeet e p.2 = true)
        ∧ r.address = none ∧ ∃ q ∈ lower, slotsMeet e q.2 = true)) := by
  simp only [entryFailure] at h
  split at h
  · obtain rfl := Option.some.inj h
    exact ⟨rfl, .inl ⟨rfl, ‹_›, rfl⟩⟩
  split at h
  · obtain rfl := Option.some.inj h
    exact ⟨rfl, .inr (.inl ⟨rfl, ‹_›, ‹_›, rfl⟩)⟩
  split at h
  · rename_i q hq
    obtain rfl := Option.some.inj h
    obtain ⟨meet, before, after, rfl, apart⟩ := List.find?_eq_some_iff_append.mp hq
    refine ⟨rfl, .inr (.inr (.inl ⟨rfl, ‹_›, ‹_›, q, by simp, by simpa using meet, rfl, fun p hp hm => ?_⟩))⟩
    rcases List.mem_append.mp hp with hp | hp
    · exact absurd hm (by simpa using apart p hp)
    · rcases List.mem_cons.mp hp with rfl | hp
      · exact Nat.le_refl _
      · exact Nat.le_of_lt ((List.pairwise_cons.mp (List.pairwise_append.mp asc).2.1).1 p hp)
  · rename_i hnone
    split at h
    · rename_i hany
      obtain rfl := Option.some.inj h
      refine ⟨rfl, .inr (.inr (.inr ⟨rfl, ‹_›, ‹_›, ?_, rfl, List.any_eq_true.mp hany⟩))⟩
      simpa using hnone
    · exact nomatch h

theorem stagedAt_below (b : StagedBank) (n k : Nat) :
    stagedAt (Vector.ofFn fun i : Fin 64 => if i.val < n then (b[i.val]?).join else none) k
      = if k < n then stagedAt b k else none := by
  simp only [stagedAt]
  by_cases hk : k < 64
  · simp [hk]
  · simp [hk]

/-- Settles O54: the run of present positions is in ascending order, so what stands before the position at fault is what lies
below it. -/
theorem validationPassesOnlyLawfulBanks : Obligations.ValidationPassesOnlyLawfulBanks := by
  intro two b
  refine ⟨lawful_of_validate two b, validate_of_lawful two b, fun r hr => ?_⟩
  obtain ⟨pre, i, e, post, split, passes, fails⟩ := validateFrom_some two r [] _ hr
  have asc := split ▸ stagedEntries_ascending b
  have below : ∀ j q, (j, q) ∈ pre ↔ stagedAt b j = some q ∧ j < i := fun j q => by
    rw [ascending_split asc, ← split, mem_stagedEntries]
  rw [List.nil_append] at fails
  obtain ⟨rfl, reason⟩ := entryFailure_some (List.pairwise_append.mp asc).1 fails
  refine ⟨e, (mem_stagedEntries b _ e).mp (split ▸ by simp), ?_, ?_⟩
  · have same : stagedEntries (Vector.ofFn fun i : Fin 64 => if i.val < r.position then (b[i.val]?).join else none)
        = pre := by
      refine ascending_ext (stagedEntries_ascending _) (List.pairwise_append.mp asc).1 fun ⟨j, q⟩ => ?_
      rw [mem_stagedEntries, stagedAt_below, below]
      split <;> simp [*]
    rw [validate, same]
    exact passes
  · have shared : ∀ j x, (j < r.position ∧ ∃ q, stagedAt b j = some q ∧ q.covers x = true ∧ e.covers x = true)
        ↔ ∃ q, (j, q) ∈ pre ∧ e.covers x = true ∧ q.covers x = true := fun j x => by
      simp only [below]
      tauto
    simp only [lineRangeFails_iff, slotRangeFails_iff] at reason
    dsimp only
    simp only [shared]
    rcases reason with h | h | ⟨detail, line, slot, q, mem, meet, address, lowest⟩
      | ⟨detail, line, slot, apart, address, q, mem, meet⟩
    · exact .inl h
    · exact .inr (.inl h)
    · obtain ⟨first, second, least⟩ := linesMeet_lowest meet
      refine .inr (.inr (.inl ⟨detail, line, slot, q.1, _, ⟨q.2, mem, first, second⟩, address, ?_, ?_⟩))
      · rintro k y ⟨p, hp, h1, h2⟩
        exact lowest (k, p) hp ((linesMeet_iff e p).mpr ⟨y, h1, h2⟩)
      · rintro y ⟨p, hp, h1, h2⟩
        have same : q.2 = p := Option.some.inj (((below _ _).mp mem).1.symm.trans ((below _ _).mp hp).1)
        exact least y h1 (same ▸ h2)
    · refine .inr (.inr (.inr ⟨detail, line, slot, ?_, address, ?_⟩))
      · rintro j x ⟨q, hq, h1, h2⟩
        exact apart (j, q) hq ((linesMeet_iff e q).mpr ⟨x, h1, h2⟩)
      · obtain ⟨n, h1, h2⟩ := (slotsMeet_iff e q.2).mp meet
        exact ⟨q.1, q.2, n, ((below _ _).mp mem).2, ((below _ _).mp mem).1, h2, h1⟩

end Sys2Proof.Machine
end

section
/-! PROOFS. What a command can do to the state, said once: every operation is a chain of moves, each with the guard under
which the model makes it. The statements about the whole machine follow from the moves. -/

namespace Sys2Proof.Machine

set_option Elab.async false

/-! ### The guards -/

/-- R4: a bank with no present entry. -/
abbrev emptyBank : StagedBank := Vector.replicate 64 none

/-- R47, R182: the states of the loader before its commit. -/
def LoaderState.beforeCommit : LoaderState → Bool
  | .waiting .. => true
  | .reading .. => true
  | .applying .. => true
  | .idle => false
  | .committing .. => false

theorem loaderBeforeCommit_iff (s : State) :
    LoaderBeforeCommit s ↔ (s.loader.state.beforeCommit = true → s.commit = .idle) := by
  simp only [LoaderBeforeCommit]
  split <;> simp_all [LoaderState.beforeCommit]

/-- R52 to R55: the store pointer at a place it can take, not at the end of store while a store request has words left. -/
structure PtrSound (p : StorePtr) (l : Link) : Prop where
  slot : p.slot ≤ Config.slots
  offset : p.offset ≤ 15
  atEnd : p.slot = Config.slots → p.offset = 0
  working : l.processing ≠ none → p.slot ≠ Config.slots

/-- R59: the fill engine's next word lies inside its line. -/
def FillSound (f : Fill) : Prop := ∀ j buffer offset, f.job = some j → j.stage = .writing buffer offset → offset ≤ 15

theorem storeSound_iff (s : State) :
    StoreSound s ↔ s.store.wf = true ∧ PtrSound s.ptr s.link ∧ FillSound s.fill :=
  ⟨fun ⟨h1, h2, h3, h4, h5, h6⟩ => ⟨h1, ⟨h2, h3, h4, h5⟩, h6⟩, fun ⟨h1, ⟨h2, h3, h4, h5⟩, h6⟩ => ⟨h1, h2, h3, h4, h5, h6⟩⟩

/-- R73, R98: every command pair that `t` has raised and `s` had not is for a sector that is OPEN in `s`. -/
def PairsAllowed (s t : State) : Prop :=
  ∀ held hw a w, HostTxn.pair held hw a w ∈ t.hostPath →
    HostTxn.pair held hw a w ∈ s.hostPath ∨ lockAt s (sectorOf held) = .opened

theorem pairsAllowed_of_eq {s t : State} (h : t.hostPath = s.hostPath) : PairsAllowed s t :=
  fun _ _ _ _ hx => .inl (h ▸ hx)

/-! ### The notice unit -/

/-- R156, R157, R159: a posting keeps the laws of the notice unit. -/
theorem noticesSound_post (n : NoticeUnit) (time : BitVec 32) (p : Posting) (h : NoticesSound n) :
    NoticesSound (n.post time p) := by
  obtain ⟨hlen, hseq, htally, hover⟩ := h
  obtain ⟨q, next, overflow, e, cases⟩ := noticeUnit_post_cases n time p
  have tallies : ∀ k (hk : k < 18),
      (n.tally.setIfInBounds p.kind.code (satInc 255 ((n.tally[p.kind.code]?).getD 0)))[k] ≤ 255 := by
    intro k hk
    rw [Vector.getElem_setIfInBounds]
    split
    · rename_i e
      subst e
      rw [Vector.getElem?_eq_getElem hk]
      exact satInc_le (htally _ hk)
    · exact htally k hk
  rw [e]
  rcases cases with ⟨rfl, hroom, rfl, rfl⟩ | ⟨rfl, rfl, hov⟩
  · refine ⟨?_, fun k hk => ?_, tallies, hover⟩
    · simp only [List.length_append, List.length_singleton]
      omega
    · simp only [List.length_append, List.length_singleton] at hk ⊢
      by_cases hold : k < n.queue.length
      · rw [List.getElem_append_left hold, hseq k hold, show n.queue.length + 1 - k = (n.queue.length - k) + 1 by omega,
          BitVec.ofNat_add]
        generalize BitVec.ofNat 16 (n.queue.length - k) = x
        simp only [BitVec.ofNat_eq_ofNat]
        bv_omega
      · obtain rfl : k = n.queue.length := by omega
        rw [List.getElem_append_right (by omega)]
        simp [NoticeUnit.recordOf]
  · refine ⟨hlen, hseq, tallies, ?_⟩
    rcases hov with rfl | rfl
    · exact hover
    · exact satInc_le hover

theorem noticesSound_posted {n m : NoticeUnit} (h : Posted n m) : NoticesSound n → NoticesSound m :=
  posted_keeps noticesSound_post h

/-! ### The moves -/

/-- Nothing that the statements about the whole machine ask about is changed: the commit unit at most goes on or becomes
IDLE, the ACTIVE bank's hit counts alone may differ, and the notice unit, the store pointer with the link and the fill engine
keep their laws. -/
structure Still (s t : State) : Prop where
  straps : t.straps = s.straps := by rfl
  staged : t.staged = s.staged := by rfl
  generation : t.generation = s.generation := by rfl
  store : t.store = s.store := by rfl
  locks : t.locks = s.locks := by rfl
  hostPath : t.hostPath = s.hostPath := by rfl
  pending : t.pending = s.pending := by rfl
  entries : entriesOf t.active = entriesOf s.active := by rfl
  commit : s.commit = .idle → t.commit = .idle := by exact id
  loader : LoaderBeforeCommit s → LoaderBeforeCommit t := by exact id
  notices : NoticesSound s.notices → NoticesSound t.notices := by exact id
  ptr : PtrSound s.ptr s.link → PtrSound t.ptr t.link := by exact id
  fill : FillSound s.fill → FillSound t.fill := by exact id

theorem Still.refl (s : State) : Still s s := {}

theorem Still.trans {s t u : State} (h : Still s t) (g : Still t u) : Still s u where
  straps := g.straps.trans h.straps
  staged := g.staged.trans h.staged
  generation := g.generation.trans h.generation
  store := g.store.trans h.store
  locks := g.locks.trans h.locks
  hostPath := g.hostPath.trans h.hostPath
  pending := g.pending.trans h.pending
  entries := g.entries.trans h.entries
  commit := g.commit ∘ h.commit
  loader := g.loader ∘ h.loader
  notices := g.notices ∘ h.notices
  ptr := g.ptr ∘ h.ptr
  fill := g.fill ∘ h.fill

/-- What a move may touch that the statements ask about. -/
inductive MoveKind where
  | still
  /-- The host path list. -/
  | path
  /-- The STAGED bank. -/
  | stage
  /-- The beginning of a commit that validation has passed. -/
  | start
  /-- The switch of a commit in flight. -/
  | switch
  /-- The switch of CLEAR_OVERLAY, from an empty STAGED bank. -/
  | clear
  | locks
  | store

/-- One change of the state. -/
inductive Move : MoveKind → State → State → Prop where
  | still {s t : State} (h : Still s t) : Move .still s t
  | path {s t : State} (h : FaceFrame s t) (hp : PairsAllowed s t) : Move .path s t
  | stage (s : State) (b : StagedBank) (h : s.loader.state.beforeCommit = true ∨ s.commit = .idle ∨ b = emptyBank) :
      Move .stage s { s with staged := b }
  | start (s : State) (c : Commit) (hv : validate s.straps.twoDevices s.staged = none)
      (hl : s.loader.state.beforeCommit = false) : Move .start s { s with commit := c }
  | switch (s : State) (h : s.commit ≠ .idle) : Move .switch s (switchBanks s)
  | clear (s : State) (h : s.staged = emptyBank) : Move .clear s (switchBanks s)
  | locks (s : State) (l : Vector Lock 512) (h : ∀ i, lockAt s i = .frozen → lockAt { s with locks := l } i = .frozen) :
      Move .locks s { s with locks := l }
  | store (s : State) (slot offset : Nat) (w : Word) : Move .store s (storeWrite slot offset w s)

/-- A chain of moves of the kinds that `p` allows. -/
inductive Moves (p : MoveKind → Bool) : State → State → Prop where
  | refl (s : State) : Moves p s s
  | tail {s t u : State} {k : MoveKind} (h : Moves p s t) (m : Move k t u) (hk : p k = true) : Moves p s u

namespace Moves

variable {p q : MoveKind → Bool} {s t u : State}

theorem trans (h : Moves p s t) (g : Moves p t u) : Moves p s u := by
  induction g with
  | refl => exact h
  | tail _ m hk ih => exact .tail ih m hk

theorem one {k : MoveKind} (m : Move k s t) (hk : p k = true := by rfl) : Moves p s t := .tail (.refl s) m hk

theorem mono (h : Moves p s t) (hpq : ∀ k, p k = true → q k = true := by intro k; cases k <;> decide) : Moves q s t := by
  induction h with
  | refl => exact .refl _
  | tail _ m hk ih => exact .tail ih m (hpq _ hk)

/-- A property that every move of the allowed kinds keeps, a chain of them keeps. -/
theorem keeps {P : State → Prop} (hP : ∀ k a b, p k = true → Move k a b → P a → P b) (h : Moves p s t) (hs : P s) :
    P t := by
  induction h with
  | refl => exact hs
  | tail _ m hk ih => exact hP _ _ _ hk m ih

end Moves

theorem Still.moves {p : MoveKind → Bool} {s t : State} (h : Still s t) (hp : p .still = true := by rfl) : Moves p s t :=
  .one (.still h) hp

namespace MoveKind

/-- What comes before the switch, if there is one. -/
def early : MoveKind → Bool
  | .still => true
  | .stage => true
  | .start => true
  | .locks => true
  | _ => false

/-- What comes with the switch and after it, the host path left alone. -/
def answering : MoveKind → Bool
  | .still => true
  | .switch => true
  | _ => false

/-- What comes with the switch and after it. -/
def late : MoveKind → Bool
  | .still => true
  | .path => true
  | .switch => true
  | _ => false

/-- What the management link can do. -/
def linked : MoveKind → Bool
  | .path => false
  | .store => false
  | _ => true

/-- Everything but a write to the store. -/
def storeless : MoveKind → Bool
  | .store => false
  | _ => true

end MoveKind

end Sys2Proof.Machine
end

section
/-! PROOFS. The operations of the tracker, the busy service and the commit unit as chains of moves. -/

namespace Sys2Proof.Machine

set_option Elab.async false

open MoveKind

variable (s : State) (d : Dev)

/-! ### Frames that leave the host path list -/

theorem face_still {t : State} (h : FaceFrame s t) (hp : t.hostPath = s.hostPath) : Still s t where
  straps := h.straps
  staged := h.staged
  generation := h.generation
  store := h.store
  locks := h.locks
  hostPath := hp
  pending := h.pending
  entries := by rw [h.active]
  commit := h.commit.trans
  loader := by simp only [loaderBeforeCommit_iff, h.loader, h.commit, imp_self]
  notices := noticesSound_posted h.notices
  ptr := by rw [h.ptr, h.link]; exact id
  fill := by rw [h.fill]; exact id

theorem post_still (p : Posting) : Still s (post p s) := face_still s (post_frame s p) rfl

theorem withdrawSuspend_hostPath : (withdrawSuspend d s).hostPath = s.hostPath := by
  rcases withdrawSuspend_cases s d with ⟨_, _, _, h⟩ | h <;> rw [h]
  rfl

theorem withdrawResume_hostPath : (withdrawResume d s).hostPath = s.hostPath := by
  rcases withdrawResume_cases s d with ⟨_, _, _, h⟩ | h <;> rw [h]
  rfl

theorem yieldResume_hostPath : (yieldResume d s).hostPath = s.hostPath := by
  simp only [yieldResume]
  split
  · rfl
  · exact withdrawResume_hostPath s d

theorem reportBudget_hostPath (r : ReadRecord) (e : EraseFields) : (reportBudget r e s).hostPath = s.hostPath := by
  simp only [reportBudget]
  split <;> rfl

theorem breakHeld_hostPath (addr : Nat) (word : Word) : (breakHeld d addr word s).hostPath = s.hostPath := by
  simp only [breakHeld]
  split <;> rfl

theorem loaderAttends_hostPath : (loaderAttends s).hostPath = s.hostPath := by
  simp only [loaderAttends]
  split
  · split
    · split <;> rfl
    · split <;> rfl
    · split <;> rfl
    · rfl
  · rfl

theorem loaderAttends_still : Still s (loaderAttends s) :=
  face_still s (loaderAttends_frame s) (loaderAttends_hostPath s)

/-! ### Frames that raise on the host path -/

/-- A change of the faces that raises no command pair but for an OPEN sector. -/
structure PathFrame (s t : State) : Prop where
  frame : FaceFrame s t
  pairs : PairsAllowed s t

theorem PathFrame.refl : PathFrame s s := ⟨.refl s, pairsAllowed_of_eq rfl⟩

theorem PathFrame.of_face {s t : State} (h : FaceFrame s t) (hp : t.hostPath = s.hostPath) : PathFrame s t :=
  ⟨h, pairsAllowed_of_eq hp⟩

theorem PathFrame.trans {s t u : State} (h : PathFrame s t) (g : PathFrame t u) : PathFrame s u := by
  refine ⟨h.frame.trans g.frame, fun held hw a w hx => ?_⟩
  rcases g.pairs held hw a w hx with hx | hx
  · exact h.pairs held hw a w hx
  · right
    simpa only [lockAt, h.frame.locks] using hx

theorem PathFrame.moves {s t : State} (h : PathFrame s t) : Moves late s t := .one (.path h.frame h.pairs)

/-- R147: what is put on the list is no command pair. -/
theorem raiseHost_path (x : HostTxn) (hx : ∀ held hw a w, x = .pair held hw a w → lockAt s (sectorOf held) = .opened) :
    PathFrame s (raiseHost x s) := by
  refine ⟨raiseHost_frame s x, fun held hw a w h => ?_⟩
  rcases List.mem_append.mp h with h | h
  · exact .inl h
  · exact .inr (hx held hw a w (List.mem_singleton.mp h).symm)

theorem forwardRead_path (r : ReadRecord) : PathFrame s (forwardRead r s) := by
  simp only [forwardRead]
  refine PathFrame.trans ?_ (raiseHost_path _ _ fun _ _ _ _ h => nomatch h)
  refine .of_face (FaceFrame.trans ?_ (setTransaction_frame _ _)) ?_
  · split
    · exact .refl s
    · exact yieldResume_frame s _
  · rw [setTransaction_hostPath]
    split
    · rfl
    · exact yieldResume_hostPath s _

theorem stallRead_path (since : Nat) (why : StallWhy) (r : ReadRecord) : PathFrame s (stallRead since why r s) :=
  .of_face (stallRead_frame s since why r) rfl

theorem setTransaction_path (x : Transaction) : PathFrame s (setTransaction x s) := .of_face (setTransaction_frame s x) rfl

theorem fallToPolicy_path (since : Nat) (r : ReadRecord) : PathFrame s (fallToPolicy since r s) := by
  simp only [fallToPolicy]
  split
  · exact stallRead_path s _ _ _
  · exact forwardRead_path s r

theorem decideErase_path (since : Nat) (r : ReadRecord) (sector : Nat) (e : Option EraseFields) :
    PathFrame s (decideErase since r sector e s) := by
  simp only [decideErase]
  split
  · exact fallToPolicy_path s _ _
  · split
    · split
      · exact .of_face ((stallRead_frame s _ _ _).trans (raiseService_frame _ _ _ _)) rfl
      · exact stallRead_path s _ _ _
    · exact (PathFrame.of_face (reportBudget_frame s _ _) (reportBudget_hostPath s _ _)).trans (fallToPolicy_path _ _ _)

theorem missDecision_path (since : Nat) (r : ReadRecord) : PathFrame s (missDecision since r s) := by
  simp only [missDecision]
  split
  · exact fallToPolicy_path s _ _
  · exact stallRead_path s _ _ _
  · split
    · exact setTransaction_path s _
    · exact fallToPolicy_path s _ _
  · split
    · exact setTransaction_path s _
    · exact decideErase_path s _ _ _ _
  · exact stallRead_path s _ _ _
  all_goals exact forwardRead_path s r

theorem resolveStalled_path : PathFrame s (resolveStalled d s) := by
  simp only [resolveStalled]
  split
  · split
    · split
      · exact missDecision_path s _ _
      · exact .refl s
    · exact .refl s
  · exact .refl s

/-! ### The guard -/

theorem busyAction_ne_pair (word : Word) (held : Nat) (hw : Word) (next : Record) :
    busyAction word ≠ .pair held hw next := by
  simp only [busyAction]
  split <;> exact nofun

theorem arrayAction_ne_pair (addr : Nat) (word : Word) (held : Nat) (hw : Word) (next : Record) :
    arrayAction addr word ≠ .pair held hw next := by
  simp only [arrayAction]
  split <;> exact nofun

/-- R73, R98: a completing write raises a pair only where the guard allows it. -/
theorem completingAction_pair (r : Record) (addr : Nat) (word : Word) (held : Nat) (hw : Word) (next : Record)
    (h : completingAction s r addr word = .pair held hw next) : lockAt s (sectorOf held) = .opened := by
  simp only [completingAction] at h
  split at h
  · split at h
    · rename_i g
      obtain ⟨rfl, -, -⟩ := WriteAction.pair.inj h
      simpa [guardAllows] using g
    · exact nomatch h
  · split at h
    · rename_i g
      obtain ⟨rfl, -, -⟩ := WriteAction.pair.inj h
      simpa [guardAllows] using g
    · exact nomatch h
  · exact nomatch h

/-- R73, R98: the tracker raises a command pair only for a sector that is OPEN. -/
theorem writeAction_pair (addr : Nat) (word : Word) (held : Nat) (hw : Word) (next : Record)
    (h : writeAction s d addr word = .pair held hw next) : lockAt s (sectorOf held) = .opened := by
  have array := arrayAction_ne_pair addr word held hw next
  have busy := busyAction_ne_pair word held hw next
  simp only [writeAction] at h
  split at h
  · exact nomatch h
  · exact nomatch h
  · exact absurd h array
  · split at h
    · exact completingAction_pair s _ _ _ _ _ _ h
    · exact absurd h array
  · split at h
    · exact completingAction_pair s _ _ _ _ _ _ h
    · exact absurd h array
  · simp only [statusAction] at h
    split at h <;> exact nomatch h
  · exact absurd h array
  · exact absurd h busy
  · simp only [busyEraseAction] at h
    split at h
    · exact nomatch h
    · exact absurd h busy
  · simp only [suspendingAction] at h
    split at h
    · exact nomatch h
    · exact nomatch h
    · exact absurd h busy
  · simp only [suspendedAction] at h
    split at h
    · exact nomatch h
    · split at h <;> exact nomatch h
    · exact absurd h busy

theorem applyAction_path (addr : Nat) (word : Word) (a : WriteAction)
    (ha : ∀ held hw next, a = .pair held hw next → lockAt s (sectorOf held) = .opened) :
    PathFrame s (applyAction d addr word a s) := by
  refine ⟨applyAction_frame s d addr word a, ?_⟩
  have written : ∀ (t : State) (x : HostTxn), t.hostPath = s.hostPath → (∀ held hw b w, x ≠ .pair held hw b w) →
      PairsAllowed s (raiseHost x t) := by
    intro t x ht hx held hw b w h
    rcases List.mem_append.mp h with h | h
    · exact .inl (ht ▸ h)
    · exact absurd (List.mem_singleton.mp h).symm (hx held hw b w)
  cases a with
  | silent => exact pairsAllowed_of_eq rfl
  | refuse => exact pairsAllowed_of_eq rfl
  | hold next leaveStatus =>
    simp only [applyAction]
    split
    · exact written _ _ rfl fun _ _ _ _ => nofun
    · exact pairsAllowed_of_eq rfl
  | forward next => exact written _ _ rfl fun _ _ _ _ => nofun
  | suspendForward next =>
    refine written _ _ ?_ fun _ _ _ _ => nofun
    exact withdrawSuspend_hostPath s d
  | resumeForward next =>
    refine written _ _ ?_ fun _ _ _ _ => nofun
    exact withdrawResume_hostPath s d
  | pair heldAddr heldWord next =>
    intro held hw b w h
    rcases List.mem_append.mp h with h | h
    · exact .inl h
    · obtain ⟨rfl, -, -, -⟩ := HostTxn.pair.inj (List.mem_singleton.mp h)
      exact .inr (ha _ _ _ rfl)
  | guardRefused operation sector => exact pairsAllowed_of_eq rfl
  | become next =>
    simp only [applyAction]
    split
    · exact pairsAllowed_of_eq (withdrawResume_hostPath s d)
    · exact pairsAllowed_of_eq rfl

theorem takeWrite_path (addr : Nat) (word : Word) : PathFrame s (takeWrite d addr word s) := by
  have broken := breakHeld_frame s d addr word
  refine (PathFrame.of_face broken (breakHeld_hostPath s d addr word)).trans (applyAction_path _ d addr word _ ?_)
  intro held hw next h
  have := writeAction_pair s d addr word held hw next h
  simpa only [lockAt, broken.locks] using this

theorem drainKept_path (fuel : Nat) : PathFrame s (drainKept fuel d s) := by
  induction fuel generalizing s with
  | zero => exact .refl s
  | succ n ih =>
    simp only [drainKept]
    split
    · exact .refl s
    · rename_i k rest _
      split
      · exact .refl s
      · have taken : PathFrame s (modTracker d (fun t => { t with kept := rest }) s) :=
          .of_face (modTracker_frame s d _) rfl
        refine (taken.trans (takeWrite_path _ d k.addr k.word)).trans (PathFrame.trans ?_ (ih _))
        split
        · exact setTransaction_path _ _
        · exact .refl _

theorem retakeKept_path : PathFrame s (retakeKept d s) := drainKept_path s d _

theorem releaseKept_path : PathFrame s (releaseKept d s) :=
  (PathFrame.of_face (modTracker_frame s d _) rfl).trans (retakeKept_path _ d)

theorem arriveWrite_path (addr : Nat) (word : Word) : PathFrame s (arriveWrite addr word s) :=
  (PathFrame.of_face ((setTransaction_frame s (.write addr word)).trans (modTracker_frame _ (devOf addr) _)) rfl).trans
    (retakeKept_path _ _)

end Sys2Proof.Machine
end

section
/-! PROOFS. The read path, the tracker's completions, host reset and the arbiter as chains of moves. -/

namespace Sys2Proof.Machine

set_option Elab.async false

open MoveKind

variable (s : State) (d : Dev)

/-! ### Completions -/

theorem loaderFollows_still : Still s (loaderFollows s) := by
  rcases loaderFollows_cases s with ⟨origin, count, -, -, h⟩ | h <;> rw [h]
  · exact { loader := fun _ => trivial, notices := noticesSound_post _ _ _ }
  · exact .refl s

theorem countHit_still (r : ReadRecord) : Still s (countHit r s) := by
  rcases countHit_cases s r with ⟨i, a, h, e⟩ | e <;> rw [e]
  · exact { entries := entriesOf_set _ _ _ _ h }
  · exact .refl s

theorem reportCompletion_answering (line : Nat) : Moves answering s (reportCompletion line s) := by
  rcases reportCompletion_cases s line with ⟨h, e⟩ | e <;> rw [e]
  · exact (Moves.one (.switch s h)).trans (loaderFollows_still _).moves
  · exact .refl s

theorem completeRead_answering (r : ReadRecord) (words : List Word) : Moves answering s (completeRead r words s) :=
  have given_up : Still s { s with host := { s.host with transaction := .none, dataOut := words } } := {}
  (given_up.trans (countHit_still _ r)).moves.trans (reportCompletion_answering _ _)

/-! ### Reads and writes taken -/

theorem takeRead_late (addr count : Nat) : Moves late s (takeRead addr count s) := by
  unfold takeRead
  extract_lets base d r h u
  have taken : Still s u := {}
  refine taken.moves.trans ?_
  split
  · exact (completeRead_answering _ _ _).mono
  · split
    · split
      · exact (completeRead_answering _ _ _).mono
      · exact (forwardRead_path _ _).moves
    · split
      · exact (setTransaction_path _ _).moves
      · exact (completeRead_answering _ _ _).mono
      · exact (post_still _ _).moves.trans (missDecision_path _ _ _).moves
    · exact (missDecision_path _ _ _).moves

theorem takeHeld_late : Moves late s (takeHeld s) := by
  simp only [takeHeld]
  split
  · exact .refl s
  · split
    · exact takeRead_late s _ _
    · exact (arriveWrite_path s _ _).moves
    · exact .refl s

theorem presentRead_late (addr count : Nat) : Moves late s (presentRead addr count s) := by
  simp only [presentRead]
  split
  · exact .refl s
  · split
    · exact .refl s
    · split
      · exact Still.moves {}
      · exact takeRead_late s _ _

theorem presentWrite_late (addr : Nat) (word : Word) : Moves late s (presentWrite addr word s) := by
  simp only [presentWrite]
  split
  · exact .refl s
  · split
    · exact .refl s
    · split
      · exact Still.moves {}
      · exact (arriveWrite_path s _ _).moves

/-! ### Operations that end -/

theorem beginRun_still : Still s (beginRun s) := by
  simp only [beginRun]
  split
  · exact {}
  · exact .refl s

theorem handOver_still (run : FollowRun) : Still s (handOver run s) :=
  have waits : Still s { s with follow := { s.follow with waiting := s.follow.waiting ++ [run] } } := {}
  waits.trans (beginRun_still _)

theorem enterStatus_late (sector : Nat) : Moves late s (enterStatus d sector s) := by
  have settled : PathFrame s (lapseController d (modTracker d
      (fun t => { t with record := .status sector, armed := false, reading := false, keptRun := none }) s)) :=
    .of_face ((modTracker_frame s d _).trans (modController_frame _ d _)) rfl
  exact ((settled.trans (releaseKept_path _ d)).trans (resolveStalled_path _ d)).moves

theorem completeOperation_late (sector target : Nat) (status : Word) :
    Moves late s (completeOperation d sector target status s) := by
  have cleared : Moves late s (modTracker d (fun t => { t with armed := false, reading := false }) s) :=
    (face_still s (modTracker_frame s d _) rfl).moves
  simp only [completeOperation]
  refine cleared.trans ?_
  split
  · exact (post_still _ _).moves.trans (enterStatus_late _ d sector)
  · have posted := fun kind => (post_still (modTracker d (fun t => { t with armed := false, reading := false }) s)
      { kind := kind, device := some d, address := some target, entry := none, detail := status }).moves (p := late)
    split
    · exact (posted _).trans (enterStatus_late _ d sector)
    · split
      · exact (posted _).trans (face_still _ (modTracker_frame _ d _) rfl).moves
      · exact ((posted _).trans (handOver_still _ _).moves).trans (enterStatus_late _ d sector)

theorem handKeptRun_late : Moves late s (handKeptRun d s) := by
  simp only [handKeptRun]
  split
  · split
    · exact .refl s
    · exact (handOver_still s _).moves.trans (enterStatus_late _ d _)
  · exact .refl s

theorem arriveSuspended_late (sector target : Nat) (o : Owner) (p : Bool) (e : Option EraseFields) :
    Moves late s (arriveSuspended d sector target o p e s) := by
  have arrived : PathFrame s (modTracker d (fun t => { t with
      record := .suspended sector target o p e, reading := false }) s) := .of_face (modTracker_frame s d _) rfl
  simp only [arriveSuspended]
  refine (arrived.trans ?_).moves
  split
  · exact (PathFrame.of_face (raiseService_frame _ _ _ _) rfl).trans (releaseKept_path _ d)
  · refine PathFrame.trans ?_ ((releaseKept_path _ d).trans (resolveStalled_path _ d))
    split
    · exact .of_face (modController_frame _ d _) rfl
    · exact .refl _

theorem raiseStatusRead_path (sector : Nat) : PathFrame s (raiseStatusRead d sector s) :=
  .of_face ((modTracker_frame s d _).trans (raiseService_frame _ _ _ _)) rfl

theorem statusReadEnds_late (w : Word) : Moves late s (statusReadEnds d w s) := by
  simp only [statusReadEnds]
  split
  · split
    · exact completeOperation_late s d _ _ _
    · exact (raiseStatusRead_path s d _).moves
  · split
    · exact (PathFrame.of_face (disarm_frame s d) rfl).moves.trans (arriveSuspended_late _ d _ _ _ _ _)
    · split
      · exact completeOperation_late s d _ _ _
      · exact (raiseStatusRead_path s d _).moves
  · split
    · exact arriveSuspended_late s d _ _ _ _ _
    · split
      · exact completeOperation_late s d _ _ _
      · exact (raiseStatusRead_path s d _).moves
  · exact (PathFrame.of_face (modTracker_frame s d _) rfl).moves

theorem riseTaken_path (sector : Nat) : PathFrame s (riseTaken d sector s) :=
  ((PathFrame.of_face (withdrawSuspend_frame s d) (withdrawSuspend_hostPath s d)).trans
    (.of_face (modController_frame _ d _) rfl)).trans (raiseStatusRead_path _ d sector)

theorem burstWaitsAgain_path : PathFrame s (burstWaitsAgain d s) := by
  simp only [burstWaitsAgain]
  split
  · split
    · split
      · exact stallRead_path s _ _ _
      · exact .refl s
    · exact .refl s
  · exact .refl s

theorem dropReading_still : Still s (dropReading d s) := by
  unfold dropReading
  split
  · extract_lets u v
    have serviced : Still s v := by
      show Still s (match u.service.get d with
        | some { work := .statusRead _, addr := a, behind := n } =>
          { u with service := u.service.set d (some { work := .statusRead true, addr := a, behind := n }) }
        | _ => u)
      split <;> exact {}
    refine serviced.trans ?_
    split
    · split
      · exact {}
      · exact .refl _
    · exact .refl _
  · exact .refl s

/-! ### Host reset -/

/-- R141: what is discarded is a read, so the command pairs on the list are those there were. -/
theorem discarded_pair (l : List HostTxn) (held : Nat) (hw : Word) (a : Nat) (w : Word)
    (h : HostTxn.pair held hw a w ∈ l.map HostTxn.discarded) : HostTxn.pair held hw a w ∈ l := by
  obtain ⟨x, hx, e⟩ := List.mem_map.mp h
  cases x <;> simp_all [HostTxn.discarded]

theorem dropRead_late (r : ReadRecord) : Moves late s (dropRead r s) := by
  unfold dropRead
  extract_lets d u dropped
  have withdrawn : PathFrame s u := .of_face (withdrawSuspend_frame s d) (withdrawSuspend_hostPath s d)
  have discarded : PathFrame u { u with hostPath := u.hostPath.map HostTxn.discarded } := by
    refine ⟨?_, fun held hw a w h => .inl (discarded_pair _ _ _ _ _ h)⟩
    constructor <;> first | rfl | exact .refl _
  exact (withdrawn.trans discarded).moves.trans (Still.moves {})

theorem endTransaction_late : Moves late s (endTransaction s) := by
  simp only [endTransaction]
  have unwaited : ∀ (t : State) (f : Tracker → Tracker),
      Moves late t (setTransaction .none (modTracker .dev0 f (modTracker .dev1 f t))) := fun t f =>
    (PathFrame.of_face (((modTracker_frame t _ _).trans (modTracker_frame _ _ _)).trans (setTransaction_frame _ _)) rfl).moves
  split
  · exact (dropRead_late s _).trans (unwaited _ _)
  · exact unwaited _ _

theorem cancelCommitWith_still (detail : Word) : Still s (cancelCommitWith detail s) := by
  rcases cancelCommitWith_cases s detail with ⟨-, h⟩ | ⟨-, h⟩ <;> rw [h]
  · exact .refl s
  · exact { commit := fun _ => rfl, loader := fun _ => (loaderBeforeCommit_iff _).mpr fun _ => rfl
            notices := noticesSound_post _ _ _ }

theorem commitMeetsReset_answering : Moves answering s (commitMeetsReset s) := by
  simp only [commitMeetsReset]
  split
  · exact .refl s
  · split
    · exact (cancelCommitWith_still s _).moves
    · exact .refl s
  · rename_i f h
    split
    · exact (cancelCommitWith_still s _).moves
    · exact (Moves.one (.switch s (by simp [h]))).trans (loaderFollows_still _).moves
  · split
    · exact (cancelCommitWith_still s _).moves
    · exact .refl s

theorem cleanupRecord_still : Still s (cleanupRecord d s) := by
  refine face_still s (cleanupRecord_frame s d) ?_
  rw [cleanupRecord_eq]

theorem hostResets_late : Moves late s (hostResets s) := by
  simp only [hostResets]
  have asserted : Still s { s with host := { s.host with resetAsserted := true } } := {}
  refine asserted.moves.trans ?_
  refine (endTransaction_late _).trans ?_
  refine (commitMeetsReset_answering _).mono.trans (Still.moves ?_)
  exact ((cleanupRecord_still _ _).trans (cleanupRecord_still _ _)).trans (post_still _ _)

/-! ### Timers -/

theorem runTo_still (n : Nat) : Still s (runTo n s) := {}

theorem stallTimesOut_late : Moves late s (stallTimesOut s) := by
  simp only [stallTimesOut]
  split
  · split
    · rename_i r _ _ since why _
      have withdrawn := PathFrame.of_face (withdrawSuspend_frame (runTo (since + (s.policy.get (devOf r.addr)).stallTimeout) s)
        (devOf r.addr)) (withdrawSuspend_hostPath _ _)
      exact (((runTo_still s _).moves.trans withdrawn.moves).trans (post_still _ _).moves).trans
        (completeRead_answering _ _ _).mono
    · exact .refl s
  · exact .refl s

theorem minRunEnds_late : Moves late s (minRunEnds s) := by
  simp only [minRunEnds]
  split
  · split
    · split
      · exact (runTo_still s _).moves.trans (decideErase_path _ _ _ _ _).moves
      · exact .refl s
    · exact .refl s
  · exact .refl s

theorem suspendTimesOut_late : Moves late s (suspendTimesOut d s) := by
  unfold suspendTimesOut
  split
  · split
    · exact .refl s
    · extract_lets u v w x
      have disabled : PathFrame v x := .of_face ((setRecord_frame v d _).trans (modController_frame w d _)) rfl
      refine ((runTo_still s _).trans (post_still u _)).moves.trans (disabled.trans ?_).moves
      split
      · split
        · split
          · exact fallToPolicy_path _ _ _
          · exact .refl _
        · exact .refl _
      · exact .refl _
  · exact .refl s

theorem raiseCalledResume_still : Still s (raiseCalledResume d s) := by
  simp only [raiseCalledResume]
  split
  · split
    · exact face_still s (raiseService_frame s _ _ _) rfl
    · exact .refl s
  · exact .refl s

theorem callResume_still (c : ResumeCall) : Still s (callResume c d s) :=
  (face_still s (modController_frame s d _) rfl).trans (raiseCalledResume_still _ d)

theorem idleTimerEnds_still : Still s (idleTimerEnds d s) := by
  simp only [idleTimerEnds]
  split
  · exact (runTo_still s _).trans (callResume_still _ d _)
  · exact .refl s

theorem holdTimerEnds_still : Still s (holdTimerEnds d s) := by
  simp only [holdTimerEnds]
  split
  · split
    · exact .refl s
    · exact (runTo_still s _).trans (callResume_still _ d _)
  · exact .refl s

theorem commitExpires_still : Still s (commitExpires s) := by
  simp only [commitExpires]
  split
  · split
    · exact { commit := fun _ => rfl, loader := fun _ => (loaderBeforeCommit_iff _).mpr fun _ => rfl
              notices := noticesSound_post _ _ _ }
    · exact .refl s
  · exact .refl s

/-! ### The grant -/

theorem suspendForwarded_path : PathFrame s (suspendForwarded d s) := by
  unfold suspendForwarded
  split
  · extract_lets u v
    have suspending : PathFrame s v := .of_face ((setRecord_frame s d _).trans (modController_frame u d _)) rfl
    refine suspending.trans ?_
    split
    · split
      · split
        · exact stallRead_path _ _ _ _
        · exact .refl _
      · exact .refl _
    · exact .refl _
  · exact .refl s

theorem resumeForwarded_path : PathFrame s (resumeForwarded d s) :=
  .of_face ((stopResumeTimers_frame s d).trans (modController_frame _ d _)) rfl

theorem resumeGranted_path : PathFrame s (resumeGranted d s) := by
  simp only [resumeGranted]
  split
  · exact ((resumeForwarded_path s d).trans (.of_face ((disarm_frame _ d).trans (setRecord_frame _ d _)) rfl)).trans
      (resolveStalled_path _ d)
  · exact .refl s

theorem serviceForwarded_path (w : ServiceWork) : PathFrame s (serviceForwarded d w s) := by
  rcases w with _ | _ | cause | _
  · exact .refl s
  · exact suspendForwarded_path s d
  · cases cause with
    | timers => exact resumeGranted_path s d
    | pendingResume => exact resumeGranted_path s d
    | cleanup => exact (resumeForwarded_path s d).trans (.of_face (disarm_frame _ d) rfl)
    | loader => exact resumeGranted_path s d
  · exact .refl s

theorem postShadowed_path (addr : Nat) (detail : Word) (l : List Nat) :
    PathFrame s (l.foldl (postShadowed d addr detail) s) := by
  induction l generalizing s with
  | nil => exact .refl s
  | cons x l ih => exact (PathFrame.of_face (post_frame s _) rfl).trans (ih _)

theorem eraseForwarded_path : PathFrame s (eraseForwarded d s) := by
  simp only [eraseForwarded]
  split
  · exact .of_face ((setRecord_frame s d _).trans (modController_frame _ d _)) rfl
  · exact .refl s

theorem deferredDecision_path : PathFrame s (deferredDecision d s) := by
  simp only [deferredDecision]
  split
  · split
    · exact missDecision_path s _ _
    · exact .refl s
  · exact .refl s

theorem pairForwarded_path (heldAddr : Nat) (heldWord : Word) (addr : Nat) :
    PathFrame s (pairForwarded heldAddr heldWord addr s) := by
  unfold pairForwarded
  extract_lets d erase u
  have posted : PathFrame s u := postShadowed_path s d addr _ _
  refine posted.trans (PathFrame.trans ?_ (deferredDecision_path _ d))
  split
  · exact eraseForwarded_path u d
  · exact .refl u

theorem hostWordForwarded_path (word : Word) : PathFrame s (hostWordForwarded d word s) := by
  have moved : ∀ f, PathFrame s (modController d f s) := fun f => .of_face (modController_frame s d f) rfl
  simp only [hostWordForwarded]
  split
  · split
    · split
      · exact .refl s
      · exact moved _
    · exact .refl s
  · split
    · exact moved _
    · exact .refl s

theorem hostForwarded_path (t : HostTxn) : PathFrame s (hostForwarded t s) := by
  cases t with
  | read a n bypass discard =>
    simp only [hostForwarded]
    split
    · exact .refl s
    · exact .of_face (modController_frame s _ _) rfl
  | write a w => exact hostWordForwarded_path s _ w
  | pair ha hw a w => exact pairForwarded_path s ha hw a

theorem serviceNearer_frame : FaceFrame s (serviceNearer d s) := by
  constructor <;> first | rfl | exact .refl _

/-- R148: the oldest transaction leaves the list. -/
theorem hostPath_rest_path (x : HostTxn) (rest : List HostTxn) (h : s.hostPath = x :: rest) :
    PathFrame s { s with hostPath := rest } := by
  refine ⟨?_, fun held hw a w hx => .inl ?_⟩
  · constructor <;> first | rfl | exact .refl _
  · rw [h]
    exact List.mem_cons_of_mem _ hx

theorem grant_late (first : Dev) : Moves late s (grant first s) := by
  simp only [grant]
  split
  · exact .refl s
  · split
    · rename_i d _
      split
      · rename_i q _
        have granted : Still s { clearService d s with bus := some (.service d q.work q.addr) } := {}
        exact granted.moves.trans (serviceForwarded_path _ _ _).moves
      · exact .refl s
    · split
      · rename_i x rest h
        have granted : Still { s with hostPath := rest } { s with hostPath := rest, bus := some (.host x) } := {}
        refine ((hostPath_rest_path s x rest h).moves.trans granted.moves).trans (PathFrame.moves ?_)
        exact ((PathFrame.of_face (serviceNearer_frame _ x.dev) rfl).trans (hostForwarded_path _ x)).trans
          (retakeKept_path _ x.dev)
      · split
        · exact Still.moves {}
        · split
          · split
            · rename_i j _
              refine Still.moves { fill := fun _ j' buffer o hj hs => ?_ }
              obtain rfl := Option.some.inj hj
              exact nomatch hs
            · exact .refl s
          · exact .refl s

/-! ### The end of a transaction -/

theorem arm_still : Still s (arm d s) :=
  have low : Still s { s with readyLine := s.readyLine.set d false } := {}
  low.trans (face_still _ (modTracker_frame _ d _) rfl)

theorem arrayWriteEnds_path : PathFrame s (arrayWriteEnds d s) := by
  simp only [arrayWriteEnds]
  refine PathFrame.trans ?_ (releaseKept_path _ d)
  split
  · exact .of_face (setRecord_frame s d _) rfl
  · exact .refl s

theorem resumeEnds_late (cause : ResumeCause) : Moves late s (resumeEnds cause d s) := by
  simp only [resumeEnds]
  refine (arm_still s d).moves.trans ?_
  split
  · refine PathFrame.moves (PathFrame.trans ?_ (releaseKept_path _ d))
    split
    · exact .of_face (setRecord_frame _ d _) rfl
    · exact .refl _
  · exact (releaseKept_path _ d).moves
  · exact .refl _
  · exact .refl _

theorem serviceEnds_late (w : ServiceWork) (words : LineWords) : Moves late s (serviceEnds d w words s) := by
  cases w with
  | statusRead discard =>
    simp only [serviceEnds]
    split
    · exact .refl s
    · exact statusReadEnds_late s d _
  | suspend => exact .refl s
  | resume cause => exact resumeEnds_late s d cause
  | arrayWrite cleanup => exact (arrayWriteEnds_path s d).moves

theorem hostReadEnds_late (a n : Nat) (discard : Bool) (words : LineWords) :
    Moves late s (hostReadEnds a n discard words s) := by
  simp only [hostReadEnds]
  refine Moves.trans ?_ (raiseCalledResume_still _ _).moves
  split
  · exact .refl s
  · split
    · exact (completeRead_answering s _ _).mono
    · exact .refl s

theorem hostEnds_late (t : HostTxn) (words : LineWords) : Moves late s (hostEnds t words s) := by
  cases t with
  | read a n bypass discard => exact hostReadEnds_late s a n discard words
  | write a w =>
    simp only [hostEnds]
    split
    · exact (arm_still s _).moves
    · exact .refl s
  | pair ha hw a w => exact (arm_still s _).moves

end Sys2Proof.Machine
end

section
/-! PROOFS. The commit unit, the fill engine, the loader and the requests as chains of moves. -/

namespace Sys2Proof.Machine

set_option Elab.async false

open MoveKind

variable (s : State)

/-! ### What a command comes to -/

/-- A command comes to moves before the switch, and then to moves of the kinds `q`, of which a switch may be one; or, where
it clears the overlay, to moves before that switch, the switch from an empty STAGED bank, and nothing more. -/
inductive Acts (q : MoveKind → Bool) (s t : State) : Prop where
  | plain {u : State} (h : Moves early s u) (g : Moves q u t)
  | cleared {u : State} (h : Moves early s u) (hu : u.staged = emptyBank) (g : Still (switchBanks u) t)

section

variable {q : MoveKind → Bool} {s t u : State}

theorem Moves.acts (h : Moves early s t) : Acts q s t := .plain h (.refl t)

theorem Moves.acts_after (h : Moves q s t) : Acts q s t := .plain (.refl s) h

theorem Still.acts (h : Still s t) : Acts q s t := h.moves.acts

theorem Acts.before (h : Moves early s t) (g : Acts q t u) : Acts q s u := by
  rcases g with ⟨g1, g2⟩ | ⟨g1, hv, g2⟩
  · exact .plain (h.trans g1) g2
  · exact .cleared (h.trans g1) hv g2

theorem Acts.after (h : Acts q s t) (g : Still t u) (hq : q .still = true := by rfl) : Acts q s u := by
  rcases h with ⟨h1, h2⟩ | ⟨h1, hv, h2⟩
  · exact .plain h1 (h2.trans (g.moves hq))
  · exact .cleared h1 hv (h2.trans g)

theorem Acts.late (h : Acts answering s t) : Acts late s t := by
  rcases h with ⟨h1, h2⟩ | ⟨h1, hv, h2⟩
  · exact .plain h1 h2.mono
  · exact .cleared h1 hv h2

theorem Acts.linked (h : Acts answering s t) : Moves linked s t := by
  rcases h with ⟨h1, h2⟩ | ⟨h1, hv, h2⟩
  · exact h1.mono.trans h2.mono
  · exact (h1.mono.trans (.one (.clear _ hv))).trans h2.moves

theorem Acts.storeless (h : Acts MoveKind.late s t) : Moves storeless s t := by
  rcases h with ⟨h1, h2⟩ | ⟨h1, hv, h2⟩
  · exact h1.mono.trans h2.mono
  · exact (h1.mono.trans (.one (.clear _ hv))).trans h2.moves

end

/-! ### Commits -/

/-- R36, R37: verification goes on, or ends in the switch or its wait, whatever moves `p` bring the commit there. -/
theorem verifyFrom_moves {p : MoveKind → Bool} (f : InFlight) (i : Nat)
    (hp : ∀ c, c ≠ .idle → Moves p s { s with commit := c }) :
    ∃ u, Moves p s u ∧ Moves answering u (verifyFrom f i s) := by
  rcases verifyFrom_cases s f i with ⟨q, -, e⟩ | ⟨-, e⟩ <;> rw [e]
  · exact ⟨_, hp (.verifying f _) nofun, .refl _⟩
  · rcases verificationEnds_cases s f with ⟨-, -, e⟩ | ⟨-, -, e⟩ | ⟨_, _, -, e⟩ <;> rw [e]
    · exact ⟨_, hp (.pendingBoundary f) nofun, .one (.switch _ nofun)⟩
    · exact ⟨_, hp (.pendingBoundary f) nofun, .refl _⟩
    · exact ⟨_, hp (.pendingMark f _) nofun, .refl _⟩

theorem rejectCommit_still (r : Rejection) : Still s (rejectCommit r s) where
  commit := fun _ => rfl
  loader := fun _ => (loaderBeforeCommit_iff _).mpr fun _ => rfl
  notices := noticesSound_post _ _ _

/-- R34, R35: an accepted commit is begun only where validation passes the STAGED bank. -/
theorem startCommit_moves (f : InFlight) (hl : s.loader.state.beforeCommit = false) :
    ∃ u, Moves early s u ∧ Moves answering u (startCommit f s) := by
  rcases startCommit_cases s f with ⟨r, -, e⟩ | ⟨hv, e⟩ <;> rw [e]
  · exact ⟨_, (rejectCommit_still s r).moves, .refl _⟩
  · exact verifyFrom_moves s f 0 fun c _ => .one (.start s c hv hl)

/-- R36: a commit in flight goes on. -/
theorem commit_goes_on (c : Commit) (h : s.commit ≠ .idle) : Still s { s with commit := c } where
  commit := fun e => absurd e h
  loader := fun g => (loaderBeforeCommit_iff _).mpr fun e => absurd ((loaderBeforeCommit_iff s).mp g e) h

theorem verifyWord_answering (f : InFlight) (c : Cursor) (h : s.commit ≠ .idle) :
    Moves answering s (verifyWord f c s) := by
  have on : ∀ i, Moves answering s (verifyFrom f i s) := fun i => by
    obtain ⟨u, h1, h2⟩ := verifyFrom_moves (p := answering) s f i fun c _ => (commit_goes_on s c h).moves
    exact h1.trans h2
  simp only [verifyWord]
  split
  · exact on _
  · split
    · exact on _
    · split
      · exact (commit_goes_on s _ h).moves
      · split
        · exact on _
        · exact (rejectCommit_still s _).moves

/-! ### The fill engine -/

theorem fillSound_none (n : Nat) : FillSound { job := none, progress := n } := nofun

theorem fillFails_still (j : FillJob) (cause : AbortCause) : Still s (fillFails j cause s) where
  notices := noticesSound_post _ _ _
  fill := fun _ => fillSound_none _

theorem stopFill_still (cause : AbortCause) : Still s (stopFill cause s) := by
  simp only [stopFill]
  split
  · exact .refl s
  · rename_i j hj
    split
    · exact fillFails_still s j cause
    · exact { fill := fun h j' buffer o hj' hs => by
                obtain rfl := Option.some.inj hj'
                exact h j buffer o hj hs }

theorem updateCheck_early (target : Nat) (value : Word) : Moves early s (updateCheck target value s) := by
  simp only [updateCheck]
  split
  · rename_i h
    split
    · split
      · exact .one (.stage s _ (.inr (.inl h)))
      · exact .refl s
    · exact .refl s
  · exact .refl s

theorem fillEnds_early (j : FillJob) : Moves early s (fillEnds j s) := by
  unfold fillEnds
  extract_lets u
  have checked : Moves early s u := by
    show Moves early s (match j.target with
      | some t => updateCheck t j.check s
      | none => s)
    split
    · exact updateCheck_early s _ _
    · exact .refl s
  exact checked.trans (Still.moves { notices := noticesSound_post _ _ _, fill := fun _ => fillSound_none _ })

theorem fillLineDone_early (j : FillJob) : Moves early s (fillLineDone j s) := by
  unfold fillLineDone
  extract_lets progress u
  have progressed : Still s u := { fill := id }
  split
  · exact (progressed.trans (fillFails_still u j _)).moves
  · split
    · exact progressed.moves.trans (fillEnds_early u j)
    · refine Still.moves { fill := fun _ j' buffer o hj hs => ?_ }
      obtain rfl := Option.some.inj hj
      exact nomatch hs

theorem fillLineRead_still (words : LineWords) : Still s (fillLineRead words s) := by
  simp only [fillLineRead]
  split
  · rename_i j _
    split
    · exact fillFails_still s _ _
    · refine { fill := fun _ j' buffer o hj hs => ?_ }
      obtain rfl := Option.some.inj hj
      obtain ⟨-, rfl⟩ := FillStage.writing.inj hs
      omega
  · exact .refl s

/-! ### The loader -/

theorem setLoader_still (l : LoaderState)
    (h : s.loader.state.beforeCommit = true ∨ s.commit = .idle ∨ l.beforeCommit = false) : Still s (setLoader l s) where
  loader := by
    simp only [loaderBeforeCommit_iff, setLoader]
    rcases h with h | h | h <;> simp +contextual [h]

theorem loadFails_acts (reason : LoadReason) (index : Nat) (address : Option Nat) :
    Acts late s (loadFails reason index address s) := by
  unfold loadFails
  extract_lets u v
  have emptied : Moves early u (emptyStaged u) := .one (.stage u emptyBank (.inr (.inr rfl)))
  have stopped : Moves early s v :=
    ((post_still s _).moves.trans emptied).trans (setLoader_still _ .idle (.inr (.inr rfl))).moves
  have released : Still v { v with host := { v.host with loadHold := false } } := {}
  exact .plain (stopped.trans released.moves) (takeHeld_late _)

theorem beginRecord_acts (origin : LoadOrigin) (index position : Nat) (h : s.loader.state.beforeCommit = true) :
    Acts late s (beginRecord origin index position s) := by
  simp only [beginRecord]
  split
  · exact loadFails_acts s _ _ _
  · split
    · exact loadFails_acts s _ _ _
    · exact (setLoader_still s _ (.inl h)).acts

theorem stageOverlay_acts (origin : LoadOrigin) (index position : Nat) (buffer : List Word)
    (h : s.loader.state.beforeCommit = true) : Acts late s (stageOverlay origin index position buffer s) := by
  simp only [stageOverlay, nextRecord]
  split
  · exact .before (.one (.stage s _ (.inl h))) (beginRecord_acts { s with staged := _ } _ _ _ h)
  · exact beginRecord_acts s _ _ _ h

theorem loaderCommit_acts (origin : LoadOrigin) (index : Nat) : Acts late s (loaderCommit origin index s) := by
  unfold loaderCommit
  extract_lets u
  obtain ⟨v, h1, h2⟩ := startCommit_moves u { mode := .immediate, origin := .loader } rfl
  refine .plain ((setLoader_still s _ (.inr (.inr rfl))).moves.trans h1) ?_
  exact (h2.mono.trans (loaderFollows_still _).moves).trans (takeHeld_late _)

theorem applyLock_early (first count : Nat) (l : Lock) : Moves early s (applyLock first count l s) :=
  .one (.locks s _ fun i hi => applyLock_keeps_frozen s first count l i hi)

theorem applyLocks_early (triples : List (Nat × Nat × Lock)) :
    Moves early s (triples.foldl (fun s t => applyLock t.1 t.2.1 t.2.2 s) s)
      ∧ (triples.foldl (fun s t => applyLock t.1 t.2.1 t.2.2 s) s).loader = s.loader := by
  induction triples generalizing s with
  | nil => exact ⟨.refl s, rfl⟩
  | cons t rest ih =>
    obtain ⟨h1, h2⟩ := ih (applyLock t.1 t.2.1 t.2.2 s)
    exact ⟨(applyLock_early s _ _ _).trans h1, h2⟩

theorem noticesSound_enabled (n : NoticeUnit) (e : Vector Bool 18) (h : NoticesSound n) :
    NoticesSound { n with enabled := e } := ⟨h.length, h.sequences, h.tallies, h.overflow⟩

theorem applyRecord_acts (origin : LoadOrigin) (index position : Nat) (buffer : List Word)
    (h : s.loader.state.beforeCommit = true) : Acts late s (applyRecord origin index position buffer s) := by
  simp only [applyRecord]
  split
  · split
    · exact (setLoader_still s _ (.inl h)).acts
    · exact stageOverlay_acts s _ _ _ _ h
  · split
    · obtain ⟨h1, h2⟩ := applyLocks_early s ((lockTriples buffer 0 (recordLength buffer / 3)).getD [])
      exact .before h1 (beginRecord_acts _ _ _ _ (by rw [h2]; exact h))
    · split
      · simp only [nextRecord]
        split
        · rename_i d p _
          have kept : Still s { s with policy := s.policy.set d p } := {}
          exact .before kept.moves (beginRecord_acts { s with policy := s.policy.set d p } _ _ _ h)
        · exact beginRecord_acts s _ _ _ h
      · split
        · simp only [nextRecord]
          split
          · rename_i e _
            have kept : Still s { s with notices := { s.notices with enabled := e } } :=
              { notices := noticesSound_enabled _ _ }
            exact .before kept.moves (beginRecord_acts { s with notices := { s.notices with enabled := e } } _ _ _ h)
          · exact beginRecord_acts s _ _ _ h
        · exact loaderCommit_acts s _ _

theorem loaderWords_acts (words : List Word) : Acts late s (loaderWords words s) := by
  simp only [loaderWords]
  split
  · rename_i h
    have hb : s.loader.state.beforeCommit = true := by rw [h]; rfl
    have reading : ∀ l, Acts late s (setLoader l s) := fun l => (setLoader_still s l (.inl hb)).acts
    split
    · exact reading _
    · split
      · exact loadFails_acts s _ _ _
      · split
        · exact loadFails_acts s _ _ _
        · split
          · exact reading _
          · split
            · exact loadFails_acts s _ _ _
            · exact applyRecord_acts s _ _ _ _ hb
  · exact Still.acts (.refl s)

/-- R178, R180: the first record is within the limits. -/
theorem enterReading_eq (origin : LoadOrigin) : enterReading origin s = setLoader (.reading origin 0 0 []) s := by
  simp [enterReading, beginRecord, Config.recordLimit, Config.sectorWords]

theorem loadBegins_still : Still s (loadBegins s) := by
  simp only [loadBegins]
  split
  · rename_i h
    split
    · rw [enterReading_eq]
      exact setLoader_still s _ (.inl (by rw [h]; rfl))
    · exact .refl s
  · exact .refl s

theorem probeTimesOut_acts : Acts late s (probeTimesOut s) := by
  simp only [probeTimesOut]
  split
  · split
    · exact .before (runTo_still s _).moves (loadFails_acts _ _ _ _)
    · exact Still.acts (.refl s)
  · exact Still.acts (.refl s)

theorem readyRises_late (d : Dev) : Moves late s (readyRises d s) := by
  unfold readyRises
  extract_lets u t v
  have up : Still s u := {}
  refine up.moves.trans ?_
  split
  · have released : Moves late u v := ((PathFrame.of_face (setRecord_frame u d .array) rfl).trans (resolveStalled_path _ d)).moves
    refine released.trans ?_
    split
    · rename_i h
      rw [enterReading_eq]
      exact (setLoader_still v _ (.inl (by rw [h]; rfl))).moves
    · exact .refl v
  · split
    · exact (riseTaken_path u d _).moves
    · exact .refl u
  · split
    · exact ((burstWaitsAgain_path u d).trans (riseTaken_path _ d _)).moves
    · exact .refl u
  · split
    · exact .refl u
    · exact (riseTaken_path u d _).moves
  · exact .refl u

theorem readyFalls_still (d : Dev) : Still s (readyFalls d s) := by
  have down : Still s { s with readyLine := s.readyLine.set d false } := {}
  exact down.trans (dropReading_still _ d)

theorem transactionEnds_acts (words : LineWords) : Acts late s (transactionEnds words s) := by
  unfold transactionEnds
  split
  · exact Still.acts (.refl s)
  · extract_lets u
    have free : Still s u := {}
    refine .before free.moves ?_
    split
    · exact (serviceEnds_late u _ _ _).acts_after
    · exact (hostEnds_late u _ _).acts_after
    · exact loaderWords_acts u _
    · exact (fillLineRead_still u _).acts

end Sys2Proof.Machine
end

section
/-! PROOFS. The management link and the store port as chains of moves, and what every command comes to. -/

namespace Sys2Proof.Machine

set_option Elab.async false

open MoveKind

variable (s : State)

/-! ### The commands of the link -/

theorem cmdStageEntry_early (args : List Byte) : Moves early s (cmdStageEntry args s).2 := by
  simp only [cmdStageEntry]
  split
  · exact .refl s
  · split
    · exact .refl s
    · rename_i h
      split
      · exact .refl s
      · exact .one (.stage s _ (.inr (.inl (not_not.mp h))))

theorem cmdClearStaged_early (args : List Byte) : Moves early s (cmdClearStaged args s).2 := by
  simp only [cmdClearStaged]
  split
  · exact .refl s
  · split
    · exact .refl s
    · rename_i h
      have staged : ∀ b, Moves early s { s with staged := b } := fun b => .one (.stage s b (.inr (.inl (not_not.mp h))))
      split
      · exact staged emptyBank
      · split
        · exact .refl s
        · exact staged _

theorem cmdCopyActive_early (args : List Byte) : Moves early s (cmdCopyActive args s).2 := by
  simp only [cmdCopyActive]
  split
  · exact .refl s
  · split
    · exact .refl s
    · rename_i h
      exact .one (.stage s _ (.inr (.inl (not_not.mp h))))

theorem cmdCommit_acts (args : List Byte) (hl : LoaderIdle s) : Acts answering s (cmdCommit args s).2 := by
  have same : Acts answering s s := (Still.refl s).acts
  simp only [cmdCommit]
  split
  · exact same
  · split
    · exact same
    · split
      · exact same
      · split
        · exact same
        · obtain ⟨u, h1, h2⟩ := startCommit_moves s _ (show s.loader.state.beforeCommit = false by rw [hl]; rfl)
          exact .plain h1 h2

theorem cmdCancelCommit_still (args : List Byte) : Still s (cmdCancelCommit args s).2 := by
  simp only [cmdCancelCommit]
  split
  · exact .refl s
  · split
    · exact .refl s
    · exact cancelCommitWith_still s _

theorem cmdReadEntry_same (args : List Byte) : (cmdReadEntry args s).2 = s := by
  simp only [cmdReadEntry]
  split
  · rfl
  · split
    · rfl
    · split <;> split <;> rfl

theorem cmdSetStorePointer_still (args : List Byte) : Still s (cmdSetStorePointer args s).2 := by
  simp only [cmdSetStorePointer]
  split
  · exact .refl s
  · split
    · exact .refl s
    · rename_i h
      refine { ptr := fun _ => ?_ }
      simp only [not_or, Nat.not_lt] at h
      constructor <;> simp only [Config.slots] <;> omega

theorem fillSound_waiting (j : FillJob) (n : Nat) (h : j.stage = .waiting) :
    FillSound { job := some j, progress := n } := by
  intro j' buffer offset hj hs
  obtain rfl := Option.some.inj hj
  exact nomatch h.symm.trans hs

theorem cmdFill_still (args : List Byte) : Still s (cmdFill args s).2 := by
  unfold cmdFill
  split
  · exact .refl s
  split
  · exact .refl s
  extract_lets slot line count target
  iterate 7
    split
    · exact .refl s
  exact { fill := fun _ => fillSound_waiting _ _ rfl }

theorem cmdAbortFill_still (args : List Byte) : Still s (cmdAbortFill args s).2 := by
  simp only [cmdAbortFill]
  split
  · exact .refl s
  · split
    · exact .refl s
    · split
      · exact .refl s
      · exact stopFill_still s _

theorem cmdReadTracker_same (args : List Byte) : (cmdReadTracker args s).2 = s := by
  simp only [cmdReadTracker]
  split
  · rfl
  · split <;> rfl

theorem cmdSetLock_early (args : List Byte) : Moves early s (cmdSetLock args s).2 := by
  simp only [cmdSetLock]
  split
  · exact .refl s
  · split
    · exact .refl s
    · split
      · exact .refl s
      · exact applyLock_early s _ _ _

theorem cmdReadLocks_same (args : List Byte) : (cmdReadLocks args s).2 = s := by
  simp only [cmdReadLocks]
  split
  · rfl
  · split <;> rfl

theorem cmdSetPolicy_still (args : List Byte) : Still s (cmdSetPolicy args s).2 := by
  simp only [cmdSetPolicy]
  split
  · exact .refl s
  · split
    · exact {}
    · exact .refl s

theorem cmdReadPolicy_same (args : List Byte) : (cmdReadPolicy args s).2 = s := by
  simp only [cmdReadPolicy]
  split
  · rfl
  · split <;> rfl

/-- R161: records leave the head of the queue, so the sequences of those left still rise to the next one. -/
theorem noticesSound_drop (n : NoticeUnit) (k : Nat) (h : NoticesSound n) :
    NoticesSound { n with queue := n.queue.drop k } := by
  refine ⟨?_, fun i hi => ?_, h.tallies, h.overflow⟩
  · have := h.length
    simp only [List.length_drop]
    omega
  · simp only [List.length_drop] at hi ⊢
    rw [List.getElem_drop, h.sequences (k + i) (by omega)]
    congr 2
    omega

theorem noticesSound_cleared (n : NoticeUnit) (h : NoticesSound n) :
    NoticesSound { n with tally := Vector.replicate 18 0, overflow := 0 } :=
  ⟨h.length, h.sequences, fun k hk => by simp, Nat.zero_le _⟩

theorem noticesSound_emptied (n : NoticeUnit) :
    NoticesSound { n with queue := [], tally := Vector.replicate 18 0, overflow := 0 } :=
  ⟨Nat.zero_le _, fun k hk => absurd hk (Nat.not_lt_zero k), fun k hk => by simp, Nat.zero_le _⟩

theorem cmdPopNotices_still (args : List Byte) : Still s (cmdPopNotices args s).2 := by
  simp only [cmdPopNotices]
  split
  · exact .refl s
  · split
    · exact .refl s
    · exact { notices := noticesSound_drop _ _ }

theorem cmdReadTallies_same (args : List Byte) : (cmdReadTallies args s).2 = s := by
  simp only [cmdReadTallies]
  split <;> rfl

theorem cmdClearTallies_still (args : List Byte) : Still s (cmdClearTallies args s).2 := by
  simp only [cmdClearTallies]
  split
  · exact .refl s
  · exact { notices := noticesSound_cleared _ }

theorem cmdSetNoticeEnable_still (args : List Byte) : Still s (cmdSetNoticeEnable args s).2 := by
  simp only [cmdSetNoticeEnable]
  split
  · exact .refl s
  · split
    · exact .refl s
    · exact { notices := noticesSound_enabled _ _ }

theorem cmdGetIdentity_same (args : List Byte) : (cmdGetIdentity args s).2 = s := by
  simp only [cmdGetIdentity]
  split <;> rfl

theorem cmdGetStatus_same (args : List Byte) : (cmdGetStatus args s).2 = s := by
  simp only [cmdGetStatus]
  split <;> rfl

/-! ### SOFT_RESET -/

/-- R204: the overlay is cleared by a switch from an empty STAGED bank. -/
theorem applyClearOverlay_cleared : ∃ u, Moves early s u ∧ u.staged = emptyBank
    ∧ Still (switchBanks u) (applyClearOverlay s) := by
  refine ⟨emptyStaged (stopFill .cleared (cancelCommitWith cancelSoftReset s)), ?_, rfl, ?_⟩
  · exact ((cancelCommitWith_still s _).trans (stopFill_still _ _)).moves.trans
      (.one (.stage _ emptyBank (.inr (.inr rfl))))
  · exact { ptr := fun _ => ⟨Nat.zero_le _, Nat.zero_le _, fun _ => rfl, fun _ => nofun⟩ }

theorem applyClearNotices_still : Still s (applyClearNotices s) := { notices := fun _ => noticesSound_emptied _ }

theorem applyDefaultPolicies_still : Still s (applyDefaultPolicies s) := {}

theorem stopFill_commit (cause : AbortCause) : (stopFill cause s).commit = s.commit := by
  simp only [stopFill]
  split
  · rfl
  · split <;> rfl

/-- R207: what RELOAD does but for the emptying of the STAGED bank. -/
theorem applyReload_moves : ∃ u, Still s u ∧ Still (emptyStaged u) (applyReload s) := by
  unfold applyReload
  extract_lets v h w
  have hv : v.commit = .idle := by
    show (stopFill _ _).commit = _
    rw [stopFill_commit]
    exact cancelCommitWith_idle s _
  have held : Still s w := ((cancelCommitWith_still s _).trans (stopFill_still _ _)).trans (t := v) {}
  exact ⟨setLoader (.waiting .reload v.clock) w, held.trans (setLoader_still w _ (.inr (.inl hv))), loaderAttends_still _⟩

theorem applyReload_early : Moves early s (applyReload s) := by
  obtain ⟨u, h1, h2⟩ := applyReload_moves s
  exact (h1.moves.trans (.one (.stage u emptyBank (.inr (.inr rfl))))).trans h2.moves

/-- R207: with the STAGED bank empty already, RELOAD leaves it so. -/
theorem applyReload_still (h : s.staged = emptyBank) : Still s (applyReload s) := by
  obtain ⟨u, h1, h2⟩ := applyReload_moves s
  have same : emptyStaged u = u := by
    simp only [emptyStaged, ← h, ← h1.staged]
  rw [same] at h2
  exact h1.trans h2

/-- R203: a flag's operation, or nothing where the flag is not given. -/
theorem still_ite {c : Prop} [Decidable c] {t : State} (h : Still s t) : Still s (if c then t else s) := by
  split
  · exact h
  · exact .refl s

theorem applyFlags_acts (flags : Nat) : Acts answering s (applyFlags flags s) := by
  unfold applyFlags
  extract_lets u v w
  have edits : Still u w := (still_ite u (applyClearNotices_still u)).trans (still_ite v (applyDefaultPolicies_still v))
  by_cases hc : flags % 2 = 1
  · obtain ⟨x, h1, hx, h2⟩ := applyClearOverlay_cleared s
    have hu : u = applyClearOverlay s := if_pos hc
    have reloaded : Still w (if flags / 8 % 2 = 1 then applyReload w else w) := by
      refine still_ite w (applyReload_still w ?_)
      rw [edits.staged, hu, h2.staged]
      exact hx
    exact .cleared h1 hx ((hu ▸ h2).trans (edits.trans reloaded))
  · have hu : u = s := if_neg hc
    refine .plain ?_ (.refl _)
    rw [hu] at edits
    refine edits.moves.trans ?_
    split
    · exact applyReload_early w
    · exact .refl w

theorem cmdSoftReset_acts (args : List Byte) : Acts answering s (cmdSoftReset args s).2 := by
  simp only [cmdSoftReset]
  split
  · exact (Still.refl s).acts
  · split
    · exact (Still.refl s).acts
    · exact applyFlags_acts s _

/-! ### Processing -/

/-- What the first step of a request's processing may have come to: an answered request acts, and a store request that goes
into processing has changed nothing and has its pointer in the store. -/
def Served.Acts (s : State) : Served → Prop
  | .reply _ t => Machine.Acts answering s t
  | .working _ t => t = s ∧ s.ptr.slot ≠ Config.slots

theorem served_same {r : Reply × State} (h : r.2 = s) : (Served.of r).Acts s := by
  show Machine.Acts answering s r.2
  rw [h]
  exact (Still.refl s).acts

theorem atEnd_ne {p : StorePtr} (h : ¬ p.atEnd = true) : p.slot ≠ Config.slots := by simpa [StorePtr.atEnd] using h

theorem cmdWriteStore_acts (args : List Byte) : (cmdWriteStore args s).Acts s := by
  simp only [cmdWriteStore]
  split
  · exact served_same s (r := (_, s)) rfl
  · split
    · exact served_same s (r := (_, s)) rfl
    · split
      · exact served_same s (r := (_, s)) rfl
      · exact ⟨rfl, atEnd_ne ‹_›⟩

theorem cmdReadStore_acts (args : List Byte) : (cmdReadStore args s).Acts s := by
  simp only [cmdReadStore]
  split
  · exact served_same s (r := (_, s)) rfl
  · split
    · exact served_same s (r := (_, s)) rfl
    · split
      · exact served_same s (r := (_, s)) rfl
      · exact ⟨rfl, atEnd_ne ‹_›⟩

theorem served_ite {c : Prop} [Decidable c] {a b : Served} (ha : c → a.Acts s) (hb : b.Acts s) :
    (if c then a else b).Acts s := by
  split
  · exact ha ‹_›
  · exact hb

/-- R192, R193: what a request comes to, by its code; a commit is asked for only while the loader is idle. -/
theorem runCommand_acts (f : Frame) (h : LoaderIdle s ∨ loaderAnswers f.code = true) : (runCommand f s).Acts s := by
  have idle : f.code = codeCommit → LoaderIdle s := fun hc => h.resolve_right (by rw [hc]; decide)
  unfold runCommand
  refine served_ite s (fun _ => served_same s (cmdGetIdentity_same s _)) ?_
  refine served_ite s (fun _ => served_same s (cmdGetStatus_same s _)) ?_
  refine served_ite s (fun _ => cmdSoftReset_acts s _) ?_
  refine served_ite s (fun _ => served_same s (cmdReadEntry_same s _)) ?_
  refine served_ite s (fun _ => (cmdStageEntry_early s _).acts) ?_
  refine served_ite s (fun _ => (cmdClearStaged_early s _).acts) ?_
  refine served_ite s (fun _ => (cmdCopyActive_early s _).acts) ?_
  refine served_ite s (fun hc => cmdCommit_acts s _ (idle hc)) ?_
  refine served_ite s (fun _ => (cmdCancelCommit_still s _).acts) ?_
  refine served_ite s (fun _ => (cmdSetStorePointer_still s _).acts) ?_
  refine served_ite s (fun _ => cmdWriteStore_acts s _) ?_
  refine served_ite s (fun _ => cmdReadStore_acts s _) ?_
  refine served_ite s (fun _ => (cmdFill_still s _).acts) ?_
  refine served_ite s (fun _ => (cmdAbortFill_still s _).acts) ?_
  refine served_ite s (fun _ => served_same s (cmdReadTracker_same s _)) ?_
  refine served_ite s (fun _ => (cmdSetLock_early s _).acts) ?_
  refine served_ite s (fun _ => served_same s (cmdReadLocks_same s _)) ?_
  refine served_ite s (fun _ => (cmdSetPolicy_still s _).acts) ?_
  refine served_ite s (fun _ => served_same s (cmdReadPolicy_same s _)) ?_
  refine served_ite s (fun _ => (cmdPopNotices_still s _).acts) ?_
  refine served_ite s (fun _ => served_same s (cmdReadTallies_same s _)) ?_
  refine served_ite s (fun _ => (cmdClearTallies_still s _).acts) ?_
  refine served_ite s (fun _ => (cmdSetNoticeEnable_still s _).acts) ?_
  exact served_same s (r := (_, s)) rfl

theorem serve_acts (f : Frame) : (serve f s).Acts s := by
  simp only [serve]
  split
  · exact served_same s (r := (_, s)) rfl
  · split
    · exact served_same s (r := (_, s)) rfl
    · split
      · exact served_same s (r := (_, s)) rfl
      · rename_i h
        refine runCommand_acts s f ?_
        by_cases g : loaderAnswers f.code = true
        · exact .inr g
        · exact .inl (by simpa [loaderRunning, g] using h)

/-- A change of the link that puts no request into processing. -/
theorem link_still (l : Link) (h : l.processing ≠ none → s.link.processing ≠ none) : Still s { s with link := l } where
  ptr := fun g => ⟨g.slot, g.offset, g.atEnd, g.working ∘ h⟩

theorem placeResponse_still (r : Response) : Still s (placeResponse r s) := link_still s _ id

theorem beginProcessing_acts (f : Frame) : Acts answering s (beginProcessing f s) := by
  have h := serve_acts s f
  simp only [beginProcessing]
  split
  · rename_i r t e
    rw [e] at h
    exact Acts.after h (placeResponse_still t _)
  · rename_i w t e
    rw [e] at h
    obtain ⟨rfl, hslot⟩ := h
    exact Still.acts { ptr := fun g => ⟨g.slot, g.offset, g.atEnd, fun _ => hslot⟩ }

theorem endProcessing_acts (p : Processing) (r : Reply) :
    Acts answering { s with link := { s.link with processing := none } } (endProcessing p r s) := by
  unfold endProcessing
  extract_lets l u v l' w
  have placed : Still u w := by
    have h1 : Still u v := by
      show Still u (if p.superseded then u else placeResponse _ u)
      split
      · exact .refl u
      · exact placeResponse_still u _
    refine h1.trans ?_
    show Still v (match v.link.pendingResponse with
      | some q => placeResponse q { v with link := { v.link with pendingResponse := none } }
      | none => v)
    split
    · have cleared : Still v { v with link := { v.link with pendingResponse := none } } := link_still v _ id
      exact cleared.trans (placeResponse_still _ _)
    · exact .refl v
  split
  · rename_i f _
    have taken : Still w { w with link := { w.link with waiting := none } } := link_still w _ id
    exact .before (placed.trans taken).moves (beginProcessing_acts _ f)
  · exact placed.acts

/-! ### The receiver -/

theorem sendByte_still : Still s (sendByte s) := link_still s _ id

theorem sendBytes_still (n : Nat) : Still s (sendBytes n s) := by
  induction n generalizing s with
  | zero => exact .refl s
  | succ n ih => exact (sendByte_still s).trans (ih _)

theorem setBuffer_still (b : List Byte) : Still s (setBuffer b s) := link_still s _ id

theorem startByte_still : Still s (startByte s) := by
  have kept : s.link.processing.map (fun p => { p with superseded := true }) ≠ none → s.link.processing ≠ none := by
    simp
  simp only [startByte]
  split
  · exact link_still s _ kept
  · exact link_still s _ kept

theorem frameComplete_acts (f : Frame) : Acts answering s (frameComplete f s) := by
  unfold frameComplete
  extract_lets l u
  have hunting : Still s u := link_still s _ id
  refine .before hunting.moves ?_
  split
  · exact Still.acts (link_still u _ id)
  · exact beginProcessing_acts u f

theorem frameTooLong_still (tag : Byte) : Still s (frameTooLong tag s) := by
  unfold frameTooLong
  extract_lets r l u
  have discarding : Still s u := link_still s _ id
  refine discarding.trans ?_
  split
  · exact link_still u _ id
  · exact placeResponse_still u _

theorem takeFrameBytes_acts (b : List Byte) : Acts answering s (takeFrameBytes b s) := by
  simp only [takeFrameBytes]
  split
  · exact (setBuffer_still s b).acts
  · split
    · exact (frameTooLong_still s _).acts
    · split
      · exact (setBuffer_still s b).acts
      · exact frameComplete_acts s _

theorem byteTime_linked (x : Byte) : Moves linked s (byteTime x s) := by
  unfold byteTime
  refine (sendByte_still s).moves.trans ?_
  unfold receiveByte
  split
  · exact .refl _
  · split
    · exact (startByte_still _).moves
    · exact .refl _
  · exact (takeFrameBytes_acts _ _).linked
  · exact .refl _

theorem receiveBytes_linked (l : List Byte) : Moves linked s (receiveBytes l s) := by
  induction l generalizing s with
  | nil => exact .refl s
  | cons x l ih => exact (byteTime_linked s x).trans (ih _)

theorem receiveFrame_linked (l : List Byte) : Moves linked s (receiveFrame l s) := by
  simp only [receiveFrame]
  split
  · exact (setBuffer_still s []).moves.trans (receiveBytes_linked _ _)
  · exact receiveBytes_linked s _

/-- R187 to R189: a whole frame is completed once at most. -/
theorem receiveWhole_acts (n : Nat) (f : Frame) : Acts answering s (receiveWhole n (frameComplete f) s) := by
  simp only [receiveWhole]
  split
  · exact .before (sendBytes_still s n).moves (frameComplete_acts _ f)
  · split
    · exact ((sendByte_still s).trans ((startByte_still _).trans (sendBytes_still _ n))).acts
    · exact .before (startByte_still s).moves (frameComplete_acts _ f)
  · exact (sendBytes_still s _).acts

theorem request_acts (code tag : Byte) (args : List Byte) (h : argsFit args = true) :
    Acts answering s (request code tag args s) := by
  rw [request_eq s code tag args (of_decide_eq_true h)]
  exact receiveWhole_acts s _ _

theorem deselect_still : Still s (deselect s) := link_still s _ id

theorem sendResponse_still : Still s (sendResponse s) := by
  simp only [sendResponse]
  split
  · exact sendBytes_still s _
  · exact .refl s

theorem applyFlag_acts (f : State → State) (h : Acts answering s (f s)) : Acts answering s (applyFlag f s) := by
  simp only [applyFlag]
  split
  · exact (Still.refl s).acts
  · exact h

/-! ### The store port -/

/-- R52, R53: one word on from where the pointer can be. -/
theorem ptrSound_next {p : StorePtr} {l : Link} (m : Link) (h : PtrSound p l) (hl : l.processing ≠ none)
    (hm : m.processing ≠ none → p.next.slot ≠ Config.slots) : PtrSound p.next m := by
  have hslot := h.working hl
  have hle := h.slot
  have hoff := h.offset
  by_cases ho : p.offset < 15
  · have e : p.next = { p with offset := p.offset + 1 } := if_pos ho
    refine ⟨by rw [e]; exact hle, by rw [e]; exact ho, fun g => ?_, hm⟩
    rw [e] at g
    exact absurd g hslot
  · have e : p.next = { slot := p.slot + 1, offset := 0 } := if_neg ho
    exact ⟨by rw [e]; exact Nat.lt_of_le_of_ne hle hslot, by rw [e]; exact Nat.zero_le _, fun _ => by rw [e], hm⟩

/-- R51: an access that the port allows is to a slot that is not live. -/
theorem portRefusal_none {slot : Nat} (h : portRefusal s slot = none) : live s slot = false := by
  simp only [portRefusal] at h
  split at h
  · exact nomatch h
  · simpa using ‹¬ live s slot = true›

/-- R50, R51: a write that the port makes before anything else comes about. -/
inductive PortWrite (s : State) : State → Prop where
  | none : PortWrite s s
  | follow (run : FollowRun) (h : portChoice s = some (.follow run)) (slot offset : Nat) (w : Word) :
      PortWrite s (storeWrite slot offset w s)
  | allowed (slot offset : Nat) (w : Word) (h : live s slot = false) (ho : StoreSound s → offset ≤ 15) :
      PortWrite s (storeWrite slot offset w s)

theorem PortWrite.moves {s t : State} (h : PortWrite s t) {p : MoveKind → Bool} (hp : p .store = true) : Moves p s t := by
  rcases h with _ | _ | _
  · exact .refl s
  · exact .one (.store _ _ _ _) hp
  · exact .one (.store _ _ _ _) hp

/-- R50, R53 to R55: a management access writes or reads one word, and the pointer advances; or it does nothing. -/
theorem managementAccess_acts (p : Processing) (hp : s.link.processing ≠ none) :
    ∃ u, PortWrite s u ∧ Acts answering u (managementAccess p s) := by
  have replied : ∀ (u : State) (q : StorePtr) (r : Reply), (PtrSound u.ptr u.link → PtrSound q { u.link with processing := none }) →
      Acts answering u (endProcessing p r { u with ptr := q }) := fun u q r hq =>
    .before (t := { u with ptr := q, link := { u.link with processing := none } }) (Still.moves { ptr := hq })
      (endProcessing_acts { u with ptr := q } p r)
  have unchanged : ∀ (r : Reply), Acts answering s (endProcessing p r s) := fun r =>
    replied s s.ptr r fun h => ⟨h.slot, h.offset, h.atEnd, fun e => absurd rfl e⟩
  have advanced : ∀ (u : State) (r : Reply), u.ptr = s.ptr → u.link = s.link →
      Acts answering u (endProcessing p r { u with ptr := s.ptr.next }) := fun u r h1 h2 =>
    replied u s.ptr.next r fun h => ptrSound_next _ (h1 ▸ h2 ▸ h) hp fun e => absurd rfl e
  have working : ∀ (u : State) (w : StoreWork), u.ptr = s.ptr → u.link = s.link → ¬ s.ptr.next.atEnd = true →
      Acts answering u { u with ptr := s.ptr.next, link := { s.link with processing := some { p with work := w } } } :=
    fun u w h1 h2 h3 => Still.acts { ptr := fun h => ptrSound_next _ (h1 ▸ h2 ▸ h) hp fun _ => atEnd_ne h3 }
  unfold managementAccess storeWork
  split
  · rename_i r t e
    split at e
    · obtain ⟨rfl, rfl⟩ := Served.reply.inj e
      exact ⟨s, .none, unchanged _⟩
    · split at e
      · obtain ⟨rfl, rfl⟩ := Served.reply.inj e
        exact ⟨s, .none, unchanged _⟩
      · rename_i x rest count _ _ hport
        have written : PortWrite s (storeWrite s.ptr.slot s.ptr.offset x s) :=
          .allowed _ _ _ (portRefusal_none s hport) fun h => h.offset
        refine ⟨_, written, ?_⟩
        dsimp only at e
        split at e
        · obtain ⟨rfl, rfl⟩ := Served.reply.inj e
          exact advanced _ _ rfl rfl
        · split at e
          · obtain ⟨rfl, rfl⟩ := Served.reply.inj e
            exact advanced _ _ rfl rfl
          · exact nomatch e
    · obtain ⟨rfl, rfl⟩ := Served.reply.inj e
      exact ⟨s, .none, unchanged _⟩
    · refine ⟨s, .none, ?_⟩
      dsimp only at e
      split at e
      · obtain ⟨rfl, rfl⟩ := Served.reply.inj e
        exact advanced s _ rfl rfl
      · split at e
        · obtain ⟨rfl, rfl⟩ := Served.reply.inj e
          exact advanced s _ rfl rfl
        · exact nomatch e
  · rename_i w t e
    split at e
    · exact nomatch e
    · split at e
      · exact nomatch e
      · rename_i x rest count _ _ hport
        have written : PortWrite s (storeWrite s.ptr.slot s.ptr.offset x s) :=
          .allowed _ _ _ (portRefusal_none s hport) fun h => h.offset
        refine ⟨_, written, ?_⟩
        dsimp only at e
        split at e
        · exact nomatch e
        · split at e
          · exact nomatch e
          · rename_i hend
            obtain ⟨rfl, rfl⟩ := Served.working.inj e
            exact working _ _ rfl rfl hend
    · exact nomatch e
    · refine ⟨s, .none, ?_⟩
      dsimp only at e
      split at e
      · exact nomatch e
      · split at e
        · exact nomatch e
        · rename_i hend
          obtain ⟨rfl, rfl⟩ := Served.working.inj e
          exact working s _ rfl rfl hend

/-- R18: after a follow run's last word the next run begins and runs kept back are handed over. -/
theorem followRunEnds_late : Moves late s (followRunEnds s) := by
  have ended : Still s { s with follow := { s.follow with current := none } } := {}
  exact ((ended.trans (beginRun_still _)).moves.trans (handKeptRun_late _ .dev0)).trans (handKeptRun_late _ .dev1)

theorem followWrite_acts (run : FollowRun) (h : portChoice s = some (.follow run)) :
    ∃ u, PortWrite s u ∧ Acts late u (followWrite run s) := by
  unfold followWrite
  split
  · exact ⟨_, .follow _ h _ _ _, (followRunEnds_late _).acts_after⟩
  · exact ⟨s, .none, (followRunEnds_late s).acts_after⟩
  · extract_lets u
    refine ⟨u, .follow _ h _ _ _, ?_⟩
    split
    · exact Still.acts {}
    · split
      · exact (followRunEnds_late _).acts_after
      · exact Still.acts {}

theorem fillWrite_acts (j : FillJob) (buffer : LineWords) (offset : Nat) (hj : s.fill.job = some j)
    (hs : j.stage = .writing buffer offset) : ∃ u, PortWrite s u ∧ Acts late u (fillWrite j buffer offset s) := by
  unfold fillWrite
  extract_lets slot w u k
  split
  · exact ⟨s, .none, (fillFails_still s j _).acts⟩
  · rename_i hport
    refine ⟨u, .allowed _ _ _ (portRefusal_none s (by simpa using hport)) fun h => h.fill j buffer offset hj hs, ?_⟩
    split
    · rename_i ho
      refine Still.acts { fill := fun _ j' buffer' offset' hj' hs' => ?_ }
      obtain rfl := Option.some.inj hj'
      obtain ⟨-, rfl⟩ := FillStage.writing.inj hs'
      exact ho
    · exact (fillLineDone_early u k).acts

theorem loaderWrite_acts (origin : LoadOrigin) (index position : Nat) (buffer : List Word) (written : Nat)
    (h : s.loader.state.beforeCommit = true) :
    ∃ u, PortWrite s u ∧ Acts late u (loaderWrite origin index position buffer written s) := by
  unfold loaderWrite
  extract_lets slot w u
  have stored : PortWrite s u := by
    show PortWrite s (if (portRefusal s slot).isSome then s else storeWrite slot (written % Config.lineWords) w s)
    split
    · exact .none
    · rename_i hport
      refine .allowed _ _ _ (portRefusal_none s (by simpa using hport)) fun _ => ?_
      exact Nat.le_of_lt_succ (Nat.mod_lt _ (by decide))
  have hu : u.loader.state.beforeCommit = true := by
    show (if (portRefusal s slot).isSome then s else storeWrite slot (written % Config.lineWords) w s).loader.state.beforeCommit
      = true
    split
    · exact h
    · exact h
  refine ⟨u, stored, ?_⟩
  split
  · exact (setLoader_still u _ (.inl hu)).acts
  · exact stageOverlay_acts u _ _ _ _ hu

theorem readStoreWord_answering (r : ReadRecord) (slot k : Nat) : Moves answering s (readStoreWord r slot k s) := by
  simp only [readStoreWord]
  split
  · exact Still.moves {}
  · exact completeRead_answering s _ _

/-- R50: whose access waits at the port when it is the one taken. -/
theorem portChoice_cases {a : PortAccess} (h : portChoice s = some a) :
    match a with
    | .verify f c => s.commit = .verifying f c
    | .fill j buffer offset => s.fill.job = some j ∧ j.stage = .writing buffer offset
    | .loader origin index position buffer written => s.loader.state = .applying origin index position buffer written
    | .management p => s.link.processing = some p
    | _ => True := by
  simp only [portChoice, Option.orElse_eq_or, Option.or_eq_some_iff] at h
  rcases h with h | ⟨-, h | ⟨-, h | ⟨-, h | ⟨-, h | ⟨-, h⟩⟩⟩⟩⟩
  · simp only [readPathAccess] at h
    split at h
    · obtain rfl := Option.some.inj h; trivial
    · split at h
      · split at h
        · obtain rfl := Option.some.inj h; trivial
        · exact nomatch h
      · exact nomatch h
  · obtain ⟨run, -, rfl⟩ := Option.map_eq_some_iff.mp h; trivial
  · simp only [verifyAccess] at h
    split at h
    · obtain rfl := Option.some.inj h; assumption
    · exact nomatch h
  · simp only [fillAccess] at h
    split at h
    · split at h
      · obtain rfl := Option.some.inj h; exact ⟨‹_›, ‹_›⟩
      · exact nomatch h
    · exact nomatch h
  · simp only [loaderAccess] at h
    split at h
    · obtain rfl := Option.some.inj h; assumption
    · exact nomatch h
  · obtain ⟨p, hp, rfl⟩ := Option.map_eq_some_iff.mp h; exact hp

/-- R50: the port makes one write at most, and what else comes about follows it. -/
theorem portAccess_acts : ∃ u, PortWrite s u ∧ Acts late u (portAccess s) := by
  unfold portAccess
  split
  · rename_i a h
    have source := portChoice_cases s h
    cases a with
    | dropped => exact ⟨s, .none, Still.acts {}⟩
    | hit r slot k => exact ⟨s, .none, (readStoreWord_answering s r slot k).mono.acts_after⟩
    | follow run => exact followWrite_acts s run h
    | verify f c =>
      have verified := verifyWord_answering s f c (by rw [source]; exact nofun)
      exact ⟨s, .none, ((verified.mono.trans (loaderFollows_still _).moves).trans (takeHeld_late _)).acts_after⟩
    | fill j buffer offset => exact fillWrite_acts s j buffer offset source.1 source.2
    | loader origin index position buffer written =>
      exact loaderWrite_acts s origin index position buffer written (by rw [source]; rfl)
    | management p =>
      obtain ⟨u, h1, h2⟩ := managementAccess_acts s p (by rw [source]; exact nofun)
      exact ⟨u, h1, h2.late⟩
  · exact ⟨s, .none, (Still.refl s).acts⟩

/-! ### Every command -/

/-- A command's outcome: a next state reached by acts of one command, or, for the bytes of a frame too long for one, by any
moves of the link. -/
def Comes (c : Instr) (s : State) (o : Host.Outcome State Fault Refusal) : Prop :=
  ∃ t, o = .next t ∧ (Acts late s t ∨ c.wellFormed = false ∧ Moves linked s t)

theorem comes_acts (c : Instr) {s t : State} (h : Acts late s t) : Comes c s (.next t) := ⟨t, rfl, .inl h⟩

/-- R187: a request's frame. -/
theorem comes_request (c : Instr) (code tag : Byte) (args : List Byte) (hc : c.wellFormed = true → argsFit args = true) :
    Comes c s (.next (request code tag args s)) := by
  refine ⟨_, rfl, ?_⟩
  by_cases h : argsFit args = true
  · exact .inl (request_acts s code tag args h).late
  · exact .inr ⟨by simpa using mt hc h, receiveFrame_linked s _⟩

theorem comes_attended (c : Instr) {t : State} (h : Acts late s t) : Comes c s (attended t) :=
  comes_acts c (h.after (loaderAttends_still t))

/-- R188, R192: a frame whose check value does not match is completed all the same, whatever the link is doing. -/
theorem damagedFrame_eq (tag : Byte) :
    damagedFrame tag s = receiveWhole 6 (frameComplete { code := 0, tag := tag, args := [], checkOk := false }) s := by
  refine receiveFrame_eq s _ _ fun t ht => ?_
  rw [be16, receiveBytes_frame (setBuffer [] t) 0 tag _ _ [] (by decide) ht rfl, sendBytes_setBuffer, frameComplete_buffer,
    ← be16, beq_eq_false_iff_ne.mpr (be16_flip _)]
  rfl

/-- R188: a frame too long to be received ends at its fourth byte, whatever the link is doing. -/
theorem overlongFrame_eq (tag : Byte) : overlongFrame tag s = receiveWhole 4 (frameTooLong tag) s := by
  refine receiveFrame_eq s _ _ fun t ht => ?_
  have header : receiveBytes [0, tag, 0x04] (setBuffer [] t) = setBuffer [0, tag, 0x04] (sendBytes 3 t) := by
    rw [receiveBytes_partial (setBuffer [] t) [0, tag, 0x04] [] ht rfl, sendBytes_setBuffer]
    · rfl
    · intro k _ hk
      refine .inl ?_
      simp only [List.nil_append, List.length_take, List.length_cons, List.length_nil] at hk ⊢
      omega
  calc receiveBytes [0, tag, 0x04, 0x01] (setBuffer [] t)
      = byteTime 0x01 (receiveBytes [0, tag, 0x04] (setBuffer [] t)) := rfl
    _ = byteTime 0x01 (setBuffer [0, tag, 0x04] (sendBytes 3 t)) := by rw [header]
    _ = frameTooLong tag (sendBytes 4 t) := by
      simp only [byteTime, receiveByte, sendByte_receiver, setBuffer_receiver, sendBytes_receiver, ht,
        sendByte_frameBuffer, setBuffer_frameBuffer, Option.getD_some]
      rw [show sendBytes 4 t = sendByte (sendBytes 3 t) from sendBytes_sendByte t 3]
      simp [takeFrameBytes, frameLength, beNat, Config.argumentLimit]
      rfl

theorem overlongFrame_still (tag : Byte) : Still s (overlongFrame tag s) := by
  rw [overlongFrame_eq]
  simp only [receiveWhole]
  split
  · exact (sendBytes_still s _).trans (frameTooLong_still _ tag)
  · split
    · exact (sendByte_still s).trans ((startByte_still _).trans (sendBytes_still _ _))
    · exact (startByte_still s).trans (frameTooLong_still _ tag)
  · exact sendBytes_still s _

/-- R186, R188: one byte time completes one frame at most. -/
theorem byteTime_acts (x : Byte) : Acts answering s (byteTime x s) := by
  unfold byteTime
  refine .before (sendByte_still s).moves ?_
  unfold receiveByte
  split
  · exact (Still.refl _).acts
  · split
    · exact (startByte_still _).acts
    · exact (Still.refl _).acts
  · exact takeFrameBytes_acts _ _
  · exact (Still.refl _).acts

theorem clearOverlay_acts : Acts answering s (applyClearOverlay s) := by
  obtain ⟨u, early, hu, still⟩ := applyClearOverlay_cleared s
  exact .cleared early hu still

/-- What every command but POWER_ON_RESET and STORE_PORT_ACCESS comes to. -/
theorem exec_comes (c : Instr) (hp : ¬ IsPowerOn c) (hc : c ≠ .storePortAccess) : Comes c s (exec c s) := by
  cases c with
  | powerOnReset => exact absurd trivial hp
  | storePortAccess => exact absurd rfl hc
  | hostReset =>
    simp only [exec, execHostReset]
    split
    · exact comes_acts _ (Still.refl s).acts
    · exact comes_attended s _ (hostResets_late s).acts_after
  | hrstNRelease => exact comes_acts _ (Still.acts {})
  | hostRead addr len => exact comes_acts _ (presentRead_late s _ _).acts_after
  | hostWrite addr word => exact comes_attended s _ (presentWrite_late s _ _).acts_after
  | lselNDeasserted => exact comes_acts _ (deselect_still s).acts
  | badFrame tag cause =>
    cases cause with
    | checkMismatch =>
      refine comes_acts _ (Acts.late ?_)
      rw [damagedFrame_eq]
      exact receiveWhole_acts s _ _
    | argumentLength => exact comes_acts _ (overlongFrame_still s tag).acts
  | startByteReceived => exact comes_acts _ (byteTime_acts s _).late
  | responseTaken => exact comes_acts _ (sendResponse_still s).acts
  | clearOverlay => exact comes_acts _ (applyFlag_acts s _ (clearOverlay_acts s)).late
  | clearNotices => exact comes_acts _ (applyFlag_acts s _ (applyClearNotices_still s).acts).late
  | defaultPolicies => exact comes_acts _ (applyFlag_acts s _ (applyDefaultPolicies_still s).acts).late
  | reload => exact comes_acts _ (applyFlag_acts s _ (applyReload_early s).acts).late
  | readyLineRises d => exact comes_attended s _ (readyRises_late s d).acts_after
  | readyLineFalls d => exact comes_acts _ (readyFalls_still s d).acts
  | memoryFaceGrant first => exact comes_attended s _ (grant_late s first).acts_after
  | memoryTransactionEnds words => exact comes_attended s _ (transactionEnds_acts s words)
  | stallTimeout => exact comes_acts _ (stallTimesOut_late s).acts_after
  | suspendTimeout d => exact comes_acts _ (suspendTimesOut_late s d).acts_after
  | minRunElapses => exact comes_acts _ (minRunEnds_late s).acts_after
  | resumeIdleTimerExpires d => exact comes_acts _ (idleTimerEnds_still s d).acts
  | holdMaxTimerExpires d => exact comes_acts _ (holdTimerEnds_still s d).acts
  | commitExpired => exact comes_acts _ (commitExpires_still s).acts
  | probeTimeout => exact comes_acts _ (probeTimesOut_acts s)
  | loadBegins => exact comes_acts _ (loadBegins_still s).acts
  | badCommand code tag args => exact comes_request s _ _ _ _ fun h => (Bool.and_eq_true_iff.mp h).1
  | _ => exact comes_request s _ _ _ _ id

end Sys2Proof.Machine
end

section
/-! PROOFS. The statements about the whole machine: what every move keeps, every command keeps. -/

namespace Sys2Proof.Machine

set_option Elab.async false

open MoveKind

variable {s t u : State} {k : MoveKind}

/-! ### What every command comes to -/

/-- R50: every command but POWER_ON_RESET comes to a write of the store port at most, and to the acts of one command after
it. -/
theorem exec_acts (c : Instr) (hp : ¬ IsPowerOn c) (s : State) : ∃ u t, exec c s = .next t ∧ PortWrite s u
    ∧ (c ≠ .storePortAccess → u = s) ∧ (Acts late u t ∨ c.wellFormed = false ∧ Moves linked u t) := by
  by_cases hc : c = .storePortAccess
  · subst hc
    obtain ⟨u, write, acts⟩ := portAccess_acts s
    exact ⟨u, _, rfl, write, fun h => absurd rfl h, .inl (acts.after (loaderAttends_still _))⟩
  · obtain ⟨t, next, acts⟩ := exec_comes s c hp hc
    exact ⟨s, t, next, .none, fun _ => rfl, acts⟩

theorem exec_acts_of_next {c : Instr} (hp : ¬ IsPowerOn c) (h : exec c s = .next t) : ∃ u, PortWrite s u
    ∧ (c ≠ .storePortAccess → u = s) ∧ (Acts late u t ∨ c.wellFormed = false ∧ Moves linked u t) := by
  obtain ⟨u, t', next, rest⟩ := exec_acts c hp s
  obtain rfl := Host.Outcome.next.inj (next.symm.trans h)
  exact ⟨u, rest⟩

theorem exec_moves {c : Instr} (hp : ¬ IsPowerOn c) (h : exec c s = .next t) : Moves (fun _ => true) s t := by
  obtain ⟨u, write, -, acts | ⟨-, moves⟩⟩ := exec_acts_of_next hp h
  · exact (write.moves rfl).trans acts.storeless.mono
  · exact (write.moves rfl).trans moves.mono

theorem probeAtPowerOn_late (s : State) (d : Dev) (ready : Bool) : Moves late s (probeAtPowerOn d ready s) := by
  simp only [probeAtPowerOn]
  split
  · exact readyRises_late s d
  · exact .refl s

/-- R178: POWER_ON_RESET starts the part, whose ready lines then may rise. -/
theorem exec_powerOn_moves {c : Instr} (hp : IsPowerOn c) (s : State) : ∃ devcount bootsel hrst r0 r1 t,
    exec c s = .next t ∧ Moves late (State.powerOn devcount bootsel hrst r0 r1 s.pending) t := by
  cases c with
  | powerOnReset devcount bootsel hrst r0 r1 =>
    exact ⟨devcount, bootsel, hrst, r0, r1, _, rfl, (probeAtPowerOn_late _ .dev1 r1).trans (probeAtPowerOn_late _ .dev0 r0)⟩
  | _ => exact absurd hp id

/-- What holds of the part at power-on and outlasts every move, and the microsecond and the queue leave alone, outlasts
every step. -/
theorem step_keeps {P : State → Prop} (powerOn : ∀ devcount bootsel hrst r0 r1 q,
      P (State.powerOn devcount bootsel hrst r0 r1 q))
    (moves : ∀ k a b, Move k a b → P a → P b) (queue : ∀ a q, P a → P { a with pending := q })
    (time : ∀ a, P a → P (tick a)) (s t : State) (hs : P s) (h : step s = .next t) : P t := by
  simp only [step] at h
  split at h
  · obtain rfl := Host.Outcome.next.inj h
    exact time s hs
  · rename_i c rest _
    by_cases hp : IsPowerOn c
    · obtain ⟨devcount, bootsel, hrst, r0, r1, t', next, m⟩ := exec_powerOn_moves hp { s with pending := rest }
      obtain rfl := Host.Outcome.next.inj (next.symm.trans h)
      exact m.keeps (fun k a b _ => moves k a b) (powerOn ..)
    · exact (exec_moves hp h).keeps (fun k a b _ => moves k a b) (queue s rest hs)

/-! ### What each move keeps -/

theorem Move.pending (m : Move k s t) : t.pending = s.pending := by
  rcases m with h | ⟨h, -⟩ | _ | _ | _ | _ | _ | _
  · exact h.pending
  · exact h.pending
  all_goals rfl

theorem loaderBeforeCommit_of_idle (h : s.commit = .idle) : LoaderBeforeCommit s :=
  (loaderBeforeCommit_iff s).mpr fun _ => h

/-- R6, R35: a commit begins only with a bank that validation passes, and a switch brings only such a bank, or an empty one,
into force. -/
theorem Move.banksSound (m : Move k s t) (hs : BanksSound s) : BanksSound t := by
  obtain ⟨active, staged, loader⟩ := hs
  rcases m with h | ⟨h, -⟩ | ⟨_, b, h⟩ | ⟨_, c, valid, before⟩ | ⟨_, h⟩ | ⟨_, h⟩ | _ | _
  · refine ⟨?_, fun hc => ?_, h.loader loader⟩
    · rw [h.straps, h.entries]
      exact active
    · rw [h.straps, h.staged]
      exact staged fun idle => hc (h.commit idle)
  · refine ⟨?_, ?_, ?_⟩
    · rw [h.straps, h.active]
      exact active
    · rw [h.straps, h.commit, h.staged]
      exact staged
    · rw [loaderBeforeCommit_iff, h.loader, h.commit, ← loaderBeforeCommit_iff]
      exact loader
  · refine ⟨active, fun hc => ?_, loader⟩
    rcases h with before | idle | rfl
    · exact absurd ((loaderBeforeCommit_iff s).mp loader before) hc
    · exact absurd idle hc
    · exact lawful_empty _
  · exact ⟨active, fun _ => lawful_of_validate _ _ valid,
      (loaderBeforeCommit_iff _).mpr fun e => nomatch e.symm.trans before⟩
  · refine ⟨?_, fun hc => absurd rfl hc, loaderBeforeCommit_of_idle rfl⟩
    rw [entriesOf_switch]
    exact staged h
  · refine ⟨?_, fun hc => absurd rfl hc, loaderBeforeCommit_of_idle rfl⟩
    rw [entriesOf_switch, h]
    exact lawful_empty _
  · exact ⟨active, staged, loader⟩
  · exact ⟨active, staged, loader⟩

theorem Move.noticesSound (m : Move k s t) (hs : NoticesSound s.notices) : NoticesSound t.notices := by
  rcases m with h | ⟨h, -⟩ | _ | _ | _ | _ | _ | _
  case still => exact h.notices hs
  case path => exact noticesSound_posted h.notices hs
  case switch => exact noticesSound_post _ _ _ hs
  case clear => exact noticesSound_post _ _ _ hs
  all_goals exact hs

theorem Move.storeSound (m : Move k s t) (hs : StoreSound s) : StoreSound t := by
  rw [storeSound_iff] at hs ⊢
  obtain ⟨store, ptr, fill⟩ := hs
  rcases m with h | ⟨h, -⟩ | _ | _ | _ | _ | _ | _
  case still => exact ⟨h.store ▸ store, h.ptr ptr, h.fill fill⟩
  case path => exact ⟨h.store ▸ store, h.ptr ▸ h.link ▸ ptr, h.fill ▸ fill⟩
  case store => exact ⟨storeWrite_wf _ _ _ s store, ptr, fill⟩
  all_goals exact ⟨store, ptr, fill⟩

/-! ### Power-on -/

section

variable (devcount bootsel hrst r0 r1 : Bool) (q : List Instr)

theorem powerOn_banksSound : BanksSound (State.powerOn devcount bootsel hrst r0 r1 q) := by
  refine ⟨?_, fun h => absurd rfl h, rfl⟩
  have none_present : entriesOf (State.powerOn devcount bootsel hrst r0 r1 q).active = Vector.replicate 64 none := by
    simp [entriesOf, State.powerOn, Vector.map_replicate]
  rw [none_present]
  exact lawful_empty _

theorem powerOn_noticesSound : NoticesSound (State.powerOn devcount bootsel hrst r0 r1 q).notices := by
  refine ⟨Nat.zero_le _, fun k h => absurd h (Nat.not_lt_zero k), fun k h => ?_, Nat.zero_le _⟩
  simp [State.powerOn, NoticeUnit.start]

theorem powerOn_storeSound : StoreSound (State.powerOn devcount bootsel hrst r0 r1 q) :=
  ⟨reset_store_wf, Nat.zero_le _, Nat.zero_le _, fun _ => rfl, fun h => absurd rfl h, nofun⟩

end

/-! ### The statements -/

/-- Settles O2. -/
theorem everyCommandAnswersAndKeepsTheQueue : Obligations.EveryCommandAnswersAndKeepsTheQueue := by
  intro c s
  have kept : ∀ {p a b}, Moves p a b → b.pending = a.pending := fun {p a b} m =>
    m.keeps (P := fun x => x.pending = a.pending) (fun _ _ _ _ move h => move.pending.trans h) rfl
  by_cases hp : IsPowerOn c
  · obtain ⟨devcount, bootsel, hrst, r0, r1, t, next, m⟩ := exec_powerOn_moves hp s
    exact ⟨t, next, (kept m :)⟩
  · obtain ⟨u, t, next, -⟩ := exec_acts c hp s
    exact ⟨t, next, kept (exec_moves hp next)⟩

/-- Settles O55: each move keeps the laws of the banks. -/
theorem banksStaySound : Obligations.BanksStaySound :=
  step_keeps powerOn_banksSound (fun _ _ _ m => m.banksSound) (fun _ _ h => ⟨h.active, h.staged, h.loader⟩)
    (fun _ h => ⟨h.active, h.staged, h.loader⟩)

/-- Settles O56. -/
theorem noticesAndStoreStaySound : Obligations.NoticesAndStoreStaySound :=
  ⟨step_keeps (P := fun s => NoticesSound s.notices) powerOn_noticesSound (fun _ _ _ m => m.noticesSound) (fun _ _ h => h)
      (fun _ h => h),
    step_keeps powerOn_storeSound (fun _ _ _ m => m.storeSound)
      (fun _ _ h => ⟨h.store, h.slot, h.offset, h.atEnd, h.working, h.fill⟩)
      (fun _ h => ⟨h.store, h.slot, h.offset, h.atEnd, h.working, h.fill⟩)⟩

/-- Settles O57. -/
theorem resetIsSound : Obligations.ResetIsSound :=
  ⟨powerOn_banksSound .., powerOn_noticesSound .., powerOn_storeSound ..⟩

/-! ### Protected sectors -/

theorem lockAt_of_locks (h : t.locks = s.locks) (i : Nat) : lockAt t i = lockAt s i := by
  simp only [lockAt, h]

/-- R92: no move takes a sector out of FROZEN. -/
theorem Move.frozen (m : Move k s t) (i : Nat) (hs : lockAt s i = .frozen) : lockAt t i = .frozen := by
  rcases m with h | ⟨h, -⟩ | _ | _ | _ | _ | ⟨_, l, h⟩ | _
  case still => exact (lockAt_of_locks h.locks i).trans hs
  case path => exact (lockAt_of_locks h.locks i).trans hs
  case locks => exact h i hs
  all_goals exact hs

/-- Only a move of the kind `path` touches the host path list. -/
theorem Move.hostPath (m : Move k s t) (hk : k ≠ .path) : t.hostPath = s.hostPath := by
  rcases m with h | _ | _ | _ | _ | _ | _ | _
  case still => exact h.hostPath
  case path => exact absurd rfl hk
  all_goals rfl

theorem Moves.hostPath {p : MoveKind → Bool} (h : Moves p s t) (hp : p .path = false) : t.hostPath = s.hostPath :=
  h.keeps (P := fun x => x.hostPath = s.hostPath)
    (fun _ _ _ hk m e => (m.hostPath fun e => by rw [e, hp] at hk; exact nomatch hk).trans e) rfl

/-- R73, R98: the late moves leave the locks alone, and raise a pair only for a sector that is OPEN. -/
theorem Moves.pairs (h : Moves late s t) : t.locks = s.locks ∧ PairsAllowed s t := by
  refine h.keeps (P := fun x => x.locks = s.locks ∧ PairsAllowed s x) (fun k a b hk m ⟨unlocked, pairs⟩ => ?_)
    ⟨rfl, pairsAllowed_of_eq rfl⟩
  have of_eq : b.locks = a.locks → b.hostPath = a.hostPath → b.locks = s.locks ∧ PairsAllowed s b := fun h1 h2 =>
    ⟨h1.trans unlocked, fun held hw x w hx => pairs held hw x w (h2 ▸ hx)⟩
  cases m with
  | still h => exact of_eq h.locks h.hostPath
  | path h allowed =>
    refine ⟨h.locks.trans unlocked, fun held hw x w hx => ?_⟩
    rcases allowed held hw x w hx with hx | opened
    · exact pairs held hw x w hx
    · exact .inr ((lockAt_of_locks unlocked _).symm.trans opened)
  | switch => exact of_eq rfl rfl
  | stage | start | clear | locks | store => exact nomatch hk

/-- Settles O58. -/
theorem protectedSectorsStayProtected : Obligations.ProtectedSectorsStayProtected := by
  intro c s t hp h
  refine ⟨fun i hi => (exec_moves hp h).keeps (fun _ _ _ _ m => m.frozen i) hi, fun held hw a w ht hs => ?_⟩
  obtain ⟨v, write, -, acts⟩ := exec_acts_of_next hp h
  have path_v : v.hostPath = s.hostPath := (write.moves (p := fun k => k matches .store) rfl).hostPath rfl
  have unraised : t.hostPath ≠ v.hostPath := fun e => hs (path_v ▸ e ▸ ht)
  rcases acts with (⟨early, late⟩ | ⟨early, -, still⟩) | ⟨-, moves⟩
  · obtain ⟨locks, pairs⟩ := late.pairs
    rcases pairs held hw a w ht with mem | opened
    · rw [early.hostPath rfl, path_v] at mem
      exact absurd mem hs
    · exact (lockAt_of_locks locks _).trans opened
  · exact absurd (still.hostPath.trans (early.hostPath rfl)) unraised
  · exact absurd (moves.hostPath rfl) unraised

/-! ### The switch -/

/-- Before the switch the ACTIVE entries and the generation stay. -/
theorem Moves.early_banks (h : Moves early s t) :
    t.generation = s.generation ∧ entriesOf t.active = entriesOf s.active := by
  refine h.keeps (P := fun x => x.generation = s.generation ∧ entriesOf x.active = entriesOf s.active)
    (fun k a b hk m ⟨gen, entries⟩ => ?_) ⟨rfl, rfl⟩
  cases m with
  | still h => exact ⟨h.generation.trans gen, h.entries.trans entries⟩
  | stage | start | locks => exact ⟨gen, entries⟩
  | path | switch | clear | store => exact nomatch hk

/-- R38: the late moves make one switch at most, since a switch leaves no commit in flight. -/
theorem Moves.late_banks (h : Moves late s t) : t.staged = s.staged
    ∧ ((t.generation = s.generation ∧ entriesOf t.active = entriesOf s.active)
      ∨ (t.generation = s.generation + 1 ∧ entriesOf t.active = s.staged ∧ t.commit = .idle)) := by
  refine h.keeps (P := fun x => x.staged = s.staged
      ∧ ((x.generation = s.generation ∧ entriesOf x.active = entriesOf s.active)
        ∨ (x.generation = s.generation + 1 ∧ entriesOf x.active = s.staged ∧ x.commit = .idle)))
    (fun k a b hk m ⟨staged, banks⟩ => ?_) ⟨rfl, .inl ⟨rfl, rfl⟩⟩
  cases m with
  | still h =>
    refine ⟨h.staged.trans staged, ?_⟩
    rw [h.generation, h.entries]
    exact banks.imp_right fun ⟨gen, entries, idle⟩ => ⟨gen, entries, h.commit idle⟩
  | path h =>
    rw [h.staged, h.generation, h.active, h.commit]
    exact ⟨staged, banks⟩
  | switch _ inFlight =>
    rcases banks with ⟨gen, -⟩ | ⟨-, -, idle⟩
    · refine ⟨staged, .inr ⟨congrArg (· + 1) gen, ?_, rfl⟩⟩
      rw [entriesOf_switch, staged]
    · exact absurd idle inFlight
  | stage | start | clear | locks | store => exact nomatch hk

/-- R204: the switch of CLEAR_OVERLAY, from an empty STAGED bank, with nothing after it that touches the banks. -/
theorem cleared_banks (still : Still (switchBanks s) t) :
    t.generation = s.generation + 1 ∧ entriesOf t.active = t.staged := by
  refine ⟨still.generation, ?_⟩
  rw [still.entries, still.staged, entriesOf_switch]
  rfl

/-- Settles O59. -/
theorem switchIsWhole : Obligations.SwitchIsWhole := by
  intro c s t hw hp h
  obtain ⟨v, write, -, acts⟩ := exec_acts_of_next hp h
  have banks_v : v.generation = s.generation ∧ entriesOf v.active = entriesOf s.active := by
    cases write <;> exact ⟨rfl, rfl⟩
  rcases acts with (⟨early, late⟩ | ⟨early, -, still⟩) | ⟨hf, -⟩
  · obtain ⟨gen_u, entries_u⟩ := early.early_banks
    obtain ⟨staged, ⟨gen, entries⟩ | ⟨gen, entries, -⟩⟩ := late.late_banks
    · exact .inl ⟨gen.trans (gen_u.trans banks_v.1), entries.trans (entries_u.trans banks_v.2)⟩
    · exact .inr ⟨by rw [gen, gen_u, banks_v.1], entries.trans staged.symm⟩
  · obtain ⟨gen, entries⟩ := cleared_banks still
    exact .inr ⟨by rw [gen, early.early_banks.1, banks_v.1], entries⟩
  · exact nomatch hw.symm.trans hf

/-! ### Live slots -/

theorem Move.store_eq (m : Move k s t) (hk : storeless k = true) : t.store = s.store := by
  rcases m with h | ⟨h, -⟩ | _ | _ | _ | _ | _ | _
  case still => exact h.store
  case path => exact h.store
  case store => exact nomatch hk
  all_goals rfl

theorem Moves.store_eq (h : Moves storeless s t) : t.store = s.store :=
  h.keeps (P := fun x => x.store = s.store) (fun _ _ _ hk m e => (m.store_eq hk).trans e) rfl

/-- Settles O60: the port refuses a write to a live slot, but for the follow writes. -/
theorem liveSlotsChangeOnlyByFollowWrites : Obligations.LiveSlotsChangeOnlyByFollowWrites := by
  intro c s t hp sound h
  obtain ⟨v, write, same, acts⟩ := exec_acts_of_next hp h
  have store_t : t.store = v.store := by
    rcases acts with acts | ⟨-, moves⟩
    · exact acts.storeless.store_eq
    · exact moves.mono.store_eq
  refine ⟨fun hc => store_t.trans (by rw [same hc]), fun unfollowed slot offset hlive ho => ?_⟩
  have read_t : storeRead t slot offset = storeRead v slot offset := congrArg (·.read (storeAddr slot offset)) store_t
  rw [read_t]
  cases write with
  | none => rfl
  | follow run chosen => exact absurd chosen (unfollowed run)
  | allowed slot' offset' w dead ho' =>
    refine storeRead_storeWrite_other w s (ho' sound) ho ?_
    rintro rfl
    exact nomatch hlive.symm.trans dead

end Sys2Proof.Machine
end

section
/-! PROOFS. The step, the reset values and the request frame; and the requests whose checks stand before their arguments. -/

namespace Sys2Proof.Machine

set_option Elab.async false

variable (s : State)

/-! ### The machine -/

/-- Settles O1. -/
theorem stepRunsTheFrontCommand : Obligations.StepRunsTheFrontCommand :=
  ⟨fun _ _ _ => rfl, fun s h => by simp only [step, h, tick]⟩

/-- Settles O3. -/
theorem resetHoldsThePowerOnValues : Obligations.ResetHoldsThePowerOnValues := by
  have bank : ∀ {α : Type} (i : Nat), ((Vector.replicate 64 (none : Option α))[i]?).join = none := fun i => by
    rw [Vector.getElem?_replicate]
    split <;> rfl
  have open_at : ∀ i, lockAt State.reset i = .opened := fun i => by
    simp only [lockAt, State.reset, State.powerOn, Vector.getElem?_replicate]
    split <;> rfl
  refine ⟨rfl, rfl, fun i _ => ⟨bank i, bank i⟩, rfl, rfl, reset_store_read, rfl, rfl, rfl, ?_, fun i _ => open_at i, ?_, ?_,
    rfl, rfl, rfl, rfl, rfl, ?_, rfl, rfl, rfl, ?_, rfl, rfl⟩
  · rintro (_ | _) <;> rfl
  · rintro (_ | _) <;> rfl
  · rintro (_ | _) <;> rfl
  · rintro (_ | _) <;> rfl
  · intro k h
    simp [State.reset, State.powerOn, NoticeUnit.start]

/-! ### The request frame (R187) -/

/-- R187, R188: the bytes of a frame whose argument length can be received are the request its code names, or, where the
check value differs, BAD_FRAME. -/
theorem decodeFrame_frame (code tag c1 c0 : Byte) (args : List Byte) (h : args.length ≤ 1024) :
    decodeFrame (0xA6 :: code :: tag :: be16 args.length ++ args ++ [c1, c0])
      = if be16 (crcBytes (code :: tag :: be16 args.length ++ args)).toNat = [c1, c0] then some (requestOf code tag args)
        else some (.badFrame tag .checkMismatch) := by
  have count : beNat [BitVec.ofNat 8 (args.length / 256), BitVec.ofNat 8 args.length] = args.length :=
    beNat_be16 args.length (by omega)
  simp only [be16, List.cons_append, List.nil_append, decodeFrame, count]
  simp [Config.argumentLimit, Nat.not_lt.mpr h]

/-- R209: a well-formed request is the one its code names. -/
theorem requestOf_request {i : Instr} {code tag : Byte} {args : List Byte} (hw : i.wellFormed = true)
    (h : i.request = some (code, tag, args)) : requestOf code tag args = i := by
  cases i with
  | badCommand c t a =>
    obtain ⟨rfl, rfl, rfl⟩ : c = code ∧ t = tag ∧ a = args := by simpa [Instr.request] using h
    have unknown : ¬ knownCodes.contains c = true := by
      simpa using (Bool.and_eq_true_iff.mp hw).2
    simp only [knownCodes, List.contains_cons, List.contains_nil, Bool.or_false, Bool.or_eq_true, beq_iff_eq,
      not_or] at unknown
    simp [requestOf, unknown]
  | _ =>
    simp only [Instr.request, Option.some.injEq, Prod.mk.injEq, reduceCtorEq] at h <;>
      (obtain ⟨rfl, rfl, rfl⟩ := h; rfl)

/-- A request's arguments fit a frame. -/
theorem request_argsFit {i : Instr} {code tag : Byte} {args : List Byte} (hw : i.wellFormed = true)
    (h : i.request = some (code, tag, args)) : args.length ≤ 1024 := by
  cases i with
  | badCommand c t a =>
    obtain ⟨-, -, rfl⟩ : c = code ∧ t = tag ∧ a = args := by simpa [Instr.request] using h
    exact of_decide_eq_true (Bool.and_eq_true_iff.mp hw).1
  | _ =>
    simp only [Instr.request, Option.some.injEq, Prod.mk.injEq, reduceCtorEq] at h <;>
      (obtain ⟨-, -, rfl⟩ := h; exact of_decide_eq_true hw)

/-- Settles O4. -/
theorem requestFrameDecodesToItsRequest : Obligations.RequestFrameDecodesToItsRequest := by
  refine ⟨fun i bytes hw h => ?_, fun code tag c1 c0 args hfit hne => ?_⟩
  · obtain ⟨⟨code, tag, args⟩, hi, rfl⟩ := Option.map_eq_some_iff.mp h
    exact (decodeFrame_frame code tag _ _ args (request_argsFit hw hi)).trans
      ((if_pos rfl).trans (congrArg some (requestOf_request hw hi)))
  · rw [decodeFrame_frame code tag c1 c0 args hfit, if_neg (Ne.symm hne)]

/-! ### Requests -/

theorem exec_request {i : Instr} {code tag : Byte} {args : List Byte} (h : i.request = some (code, tag, args)) :
    exec i s = .next (request code tag args s) := by
  cases i <;> simp only [Instr.request, Option.some.injEq, Prod.mk.injEq, reduceCtorEq] at h <;>
    (obtain ⟨rfl, rfl, rfl⟩ := h; rfl)

theorem request_known {i : Instr} {code tag : Byte} {args : List Byte} (h : i.request = some (code, tag, args))
    (hb : ∀ c t a, i ≠ .badCommand c t a) : knownCodes.contains code = true := by
  cases i with
  | badCommand c t a => exact absurd rfl (hb c t a)
  | _ =>
    simp only [Instr.request, Option.some.injEq, Prod.mk.injEq, reduceCtorEq] at h <;>
      (obtain ⟨rfl, -, -⟩ := h; decide)

/-- R188, R191 to R193: `request_answered`, for the row of the request. -/
theorem exec_answered {i : Instr} {code tag : Byte} {args : List Byte} (hi : i.request = some (code, tag, args))
    (hlink : LinkFree s) (hload : LoaderIdle s) (hargs : args.length ≤ 1024) (t : State) {status : RespStatus}
    {payload : List Byte} (hrun : runCommand (goodFrame code tag args) s.unlinked = .of ((status, payload), t.unlinked))
    (hcode : knownCodes.contains code = true := by decide) : exec i s = .next (t.answered tag status payload) := by
  rw [exec_request s hi, request_answered s t code tag args status payload hlink hload hargs hcode hrun]

/-- R193: the codes that the loader's running does not refuse. -/
theorem loaderAnswers_iff (code : Byte) :
    loaderAnswers code = true ↔ code = codeGetIdentity ∨ code = codeGetStatus ∨ code = codePopNotices := by
  simp [loaderAnswers, or_assoc]

/-- Settles O28. -/
theorem otherRequestsAreNotReadyWhileTheLoaderRuns : Obligations.OtherRequestsAreNotReadyWhileTheLoaderRuns := by
  intro i s code tag args hw hi hbad hid hst hpop hlink hrun
  have refused : loaderAnswers code = false := by
    rw [← Bool.not_eq_true, loaderAnswers_iff]
    have named := requestOf_request hw hi
    rintro (rfl | rfl | rfl)
    · exact hid tag args named.symm
    · exact hst tag args named.symm
    · exact hpop tag args named.symm
  have served := serve_notReady s.unlinked (goodFrame code tag args) rfl (request_known hi hbad) hrun refused
  rw [exec_request s hi, request_free s code tag args hlink (request_argsFit hw hi), beginProcessing_reply _ _ _ _ served]
  exact congrArg _ (placeResponse_unlinked s tag .notReady [])

/-- Settles O29: check 4 stands before every other check of a command, so each replies BAD_ARG with the state as it is. -/
theorem wrongArgumentLengthIsBadArg : Obligations.WrongArgumentLengthIsBadArg := by
  intro i s code tag args hw hi hlink hload h
  have hfit := request_argsFit hw hi
  cases i <;> try (exact absurd h id)
  all_goals
    refine exec_answered s hi hlink hload hfit s ?_ (request_known hi nofun)
    simp only [Instr.request, Option.some.injEq, Prod.mk.injEq] at hi
    obtain ⟨rfl, rfl, rfl⟩ := hi
  case stageEntry => exact congrArg Served.of (if_pos (mt And.left h))
  case commit => exact congrArg Served.of (if_pos (not_or.mpr h))
  case fill => exact congrArg Served.of (if_pos (not_or.mpr h))
  case writeStore => exact if_pos h
  case readStore => exact if_pos h
  all_goals exact congrArg Served.of (if_pos h)

end Sys2Proof.Machine
end

section
/-! PROOFS. The requests of the commit unit and of the store (R29 to R63): what each argument layout carries, what each
command comes to, and the requests over a free link. -/

namespace Sys2Proof.Machine

set_option Elab.async false

variable (s : State)

/-! ### Argument fields (R210) -/

theorem beNat_be8 (n : Nat) (h : n < 256) : beNat (be8 n) = n := by
  simp only [be8, beNat, List.foldl_cons, List.foldl_nil, BitVec.toNat_ofNat]
  omega

theorem beNat_be32 (n : Nat) (h : n < 4294967296) : beNat (be32 n) = n := by
  simp only [be32, beNat, List.foldl_cons, List.foldl_nil, BitVec.toNat_ofNat]
  omega

/-! ### The commit requests -/

/-- R34: a commit's mode, mark line or expiry that is missing, out of range or not for its mode. -/
theorem commitModeOf_refused (two : Bool) (args : List Byte)
    (h : (args.length = 1 ∧ argField args 0 1 ≠ 1) ∨ (args.length = 7 ∧ argField args 0 1 ≠ 2)
      ∨ (args.length = 7 ∧ (2097151 < argField args 1 4 ∨ argField args 5 2 = 0
          ∨ (two = false ∧ 1048576 ≤ argField args 1 4)))) : commitModeOf two args = none := by
  have mismatch : (argField args 0 1 = 1 → args.length ≠ 1) → (argField args 0 1 = 2 → args.length ≠ 7) →
      commitModeOf two args = none := by
    intro h1 h2
    simp only [commitModeOf]
    split
    · exact if_neg (h1 ‹_›)
    · split
      · exact if_neg (h2 ‹_›)
      · rfl
  rcases h with ⟨hl, hm⟩ | ⟨hl, hm⟩ | ⟨hl, hr⟩
  · exact mismatch (fun e => absurd e hm) fun _ => by omega
  · exact mismatch (fun _ => by omega) fun e => absurd e hm
  · by_cases hm : argField args 0 1 = 2
    · simp only [commitModeOf, hm, hl, Config.deviceLines]
      rcases hr with hr | hr | ⟨rfl, hr⟩
      · simp [hr]
      · simp [hr]
      · simp [hr]
    · exact mismatch (fun _ => by omega) fun e => absurd e hm

theorem commitModeOf_atMark {two : Bool} {mark expiry : Nat} (hm : mark ≤ 2097151) (hlow : 1 ≤ expiry)
    (hhigh : expiry ≤ 65535) (hd : two = true ∨ mark < 1048576) :
    commitModeOf two (be8 2 ++ be32 mark ++ be16 expiry) = some (.atMark mark expiry) := by
  have mode : argField (be8 2 ++ be32 mark ++ be16 expiry) 0 1 = 2 := rfl
  have field_mark : argField (be8 2 ++ be32 mark ++ be16 expiry) 1 4 = mark := beNat_be32 mark (by omega)
  have field_expiry : argField (be8 2 ++ be32 mark ++ be16 expiry) 5 2 = expiry := beNat_be16 expiry (by omega)
  have len : (be8 2 ++ be32 mark ++ be16 expiry).length = 7 := rfl
  have present : ¬ (¬ two = true ∧ mark ≥ Config.deviceLines) := by
    simp only [Config.deviceLines]
    rintro ⟨h1, h2⟩
    exact absurd (hd.resolve_left h1) (by omega)
  simp only [commitModeOf, mode, field_mark, field_expiry, len]
  rw [if_neg (by decide), if_pos trivial, if_pos trivial, if_neg (by omega), if_neg (by omega), if_neg present]

/-- R29, R34: before its arguments are examined a COMMIT is BUSY while a commit is in flight or the fill engine runs. -/
theorem cmdCommit_busy {args : List Byte} (hlen : args.length = 1 ∨ args.length = 7)
    (h : s.commit ≠ .idle ∨ s.fill.job.isSome = true) : cmdCommit args s = ((.busy, []), s) := by
  by_cases hc : s.commit = .idle
  · simp [cmdCommit, hlen, hc, h.resolve_left (not_not_intro hc)]
  · simp [cmdCommit, hlen, hc]

theorem cmdCommit_free {args : List Byte} (hlen : args.length = 1 ∨ args.length = 7) (hc : s.commit = .idle)
    (hf : s.fill.job = none) : cmdCommit args s = match commitModeOf s.straps.twoDevices args with
      | none => ((.badArg, []), s)
      | some mode => ((.ok, []), startCommit { mode := mode, origin := .management } s) := by
  simp only [cmdCommit, hlen, hc, hf]
  rfl

theorem verificationEnds_unlinked (f : InFlight) : verificationEnds f s.unlinked = (verificationEnds f s).unlinked := by
  unfold verificationEnds
  cases f.mode with
  | immediate =>
    by_cases hr : readInProgress s = true
    · rw [if_pos hr, if_pos (show readInProgress s.unlinked = true from hr)]
      rfl
    · rw [if_neg hr, if_neg (show ¬ readInProgress s.unlinked = true from hr)]
      rfl
  | atMark => rfl

/-- R34: what a commit begins with does not depend on the link. -/
theorem startCommit_unlinked (f : InFlight) : startCommit f s.unlinked = (startCommit f s).unlinked := by
  rcases hv : validate s.straps.twoDevices s.staged with _ | r
  · rw [startCommit, startCommit, hv, show validate s.unlinked.straps.twoDevices s.unlinked.staged = none from hv]
    rcases hq : nextChecked s.staged 0 with _ | q
    · rw [verifyFrom, verifyFrom, hq, show nextChecked s.unlinked.staged 0 = none from hq]
      exact verificationEnds_unlinked s f
    · rw [verifyFrom, verifyFrom, hq, show nextChecked s.unlinked.staged 0 = some q from hq]
      rfl
  · rw [startCommit, startCommit, hv, show validate s.unlinked.straps.twoDevices s.unlinked.staged = some r from hv]
    rfl

/-- R34: an accepted COMMIT is answered OK, whatever validation says. -/
theorem exec_commit_accepted (tag : Byte) (args : List Byte) (mode : CommitMode) (hlink : LinkFree s) (hload : LoaderIdle s)
    (hc : s.commit = .idle) (hf : s.fill.job = none) (hlen : args.length = 1 ∨ args.length = 7)
    (hmode : commitModeOf s.straps.twoDevices args = some mode) : exec (.commit tag args) s
      = .next ((startCommit { mode := mode, origin := .management } s).answered tag .ok []) := by
  refine exec_answered s (i := .commit tag args) rfl hlink hload (by omega) _ (congrArg Served.of ?_)
  change cmdCommit args s.unlinked = _
  rw [cmdCommit_free s.unlinked hlen hc hf, show commitModeOf s.unlinked.straps.twoDevices args = some mode from hmode,
    ← startCommit_unlinked]

theorem commit_idle_eq (h : s.commit = .idle) : { s with commit := .idle } = s := by
  rw [← h]

/-- Settles O10. -/
theorem commitIsValidatedAtItsAcceptance : Obligations.CommitIsValidatedAtItsAcceptance := by
  refine ⟨fun s tag args j hlink hload hc hj hlen => ?_, fun s tag args hlink hload hc hf h => ?_, ?_⟩
  · exact exec_answered s (i := .commit tag args) rfl hlink hload (by omega) s
      (congrArg Served.of (cmdCommit_busy s.unlinked hlen (.inr (by rw [show s.unlinked.fill.job = some j from hj]; rfl))))
  · have hlen : args.length = 1 ∨ args.length = 7 := by omega
    refine exec_answered s (i := .commit tag args) rfl hlink hload (by omega) s (congrArg Served.of ?_)
    change cmdCommit args s.unlinked = _
    rw [cmdCommit_free s.unlinked hlen hc hf, show commitModeOf s.unlinked.straps.twoDevices args = none from
      commitModeOf_refused s.straps.twoDevices args h]
  · intro s tag args mode hlink hload hc hf hargs f
    have parsed : (args.length = 1 ∨ args.length = 7) ∧ commitModeOf s.straps.twoDevices args = some mode := by
      rcases hargs with ⟨rfl, rfl⟩ | ⟨mark, expiry, rfl, rfl, hm, hlow, hhigh, hd⟩
      · exact ⟨.inl rfl, rfl⟩
      · exact ⟨.inr rfl, commitModeOf_atMark hm hlow hhigh hd⟩
    have accepted := exec_commit_accepted s tag args mode hlink hload hc hf parsed.1 parsed.2
    have verified : validate s.straps.twoDevices s.staged = none → startCommit f s = verifyFrom f 0 s := fun hv => by
      rcases startCommit_cases s f with ⟨r, hr, -⟩ | ⟨-, e⟩
      · exact nomatch hv.symm.trans hr
      · exact e
    refine ⟨fun r hr => ?_, fun hv p hp => ?_, fun hv hp => ?_⟩
    · have rejected : startCommit f s = rejectCommit r s := by simp only [startCommit, hr]
      rw [accepted, rejected, rejectCommit, commit_idle_eq s hc]
      rfl
    · rw [accepted, verified hv, verifyFrom, hp]
      rfl
    · have ended : startCommit f s = verificationEnds f s := by rw [verified hv, verifyFrom, hp]
      refine ⟨fun hm hr => ?_, fun hm hr => ?_, fun mark expiry hm => ?_⟩
      · have switched : verificationEnds f s = s.switched := by
          simp only [verificationEnds, f, hm, hr]
          rfl
        rw [accepted, ended, switched]
        simp only [State.switched, ← hc]
      · rw [accepted, ended]
        simp only [verificationEnds, f, hm, hr]
        rfl
      · rw [accepted, ended]
        simp only [verificationEnds, f, hm]

theorem cmdStageEntry_busy {args : List Byte} (hlen : args.length = 16) (hw : (EntryArgs.ofBytes args).wellFormed = true)
    (h : s.commit ≠ .idle) : cmdStageEntry args s = ((.busy, []), s) := by
  simp [cmdStageEntry, hlen, hw, h]

/-- Settles O7. -/
theorem stagedEditsAndCommitAreBusyInFlight : Obligations.StagedEditsAndCommitAreBusyInFlight := by
  intro s tag args hlink hload hc
  refine ⟨fun hlen hw => ?_, fun hlen => ?_, ?_, fun hlen => ?_⟩
  · exact exec_answered s (i := .stageEntry tag args) rfl hlink hload (by omega) s
      (congrArg Served.of (cmdStageEntry_busy s.unlinked hlen hw hc))
  · exact exec_answered s (i := .clearStaged tag args) rfl hlink hload (by omega) s
      (congrArg Served.of ((if_neg (not_not_intro hlen)).trans (if_pos hc)))
  · exact exec_answered s (i := .copyActive tag []) rfl hlink hload (by decide) s (congrArg Served.of (if_pos hc))
  · exact exec_answered s (i := .commit tag args) rfl hlink hload (by omega) s
      (congrArg Served.of (cmdCommit_busy s.unlinked hlen (.inl hc)))

/-- Settles O11. -/
theorem cancelCommitEndsTheCommit : Obligations.CancelCommitEndsTheCommit := by
  intro s tag hlink hload
  refine ⟨fun hc => ?_, fun hc => ?_⟩
  · refine exec_answered s (i := .cancelCommit tag []) rfl hlink hload (by decide) _ (congrArg Served.of ?_)
    exact (if_neg hc).trans (congrArg (Prod.mk _) (if_neg hc))
  · exact exec_answered s (i := .cancelCommit tag []) rfl hlink hload (by decide) s (congrArg Served.of (if_pos hc))

/-! ### The fill engine's requests -/

theorem anySlot_iff (p : Nat → Bool) (slot n : Nat) : anySlot p slot n = true ↔ ∃ k, k < n ∧ p (slot + k) = true := by
  simp [anySlot]

theorem anySlot_none {p : Nat → Bool} {slot n : Nat} (h : ∀ k, k < n → p (slot + k) = false) :
    ¬ anySlot p slot n = true := by
  rw [anySlot_iff]
  rintro ⟨k, hk, e⟩
  exact nomatch (h k hk).symm.trans e

/-- R57: the target position that a FILL of nine bytes names. -/
def fillTarget (args : List Byte) : Option Nat := if args.length = 9 then some (argField args 8 1) else none

/-- R57, checks 1 to 5: slots or lines out of range, lines of both devices or of an absent one, a target out of range. -/
def FillRangeFails (two : Bool) (slot line n : Nat) (target : Option Nat) : Prop :=
  2047 < slot ∨ 2097151 < line ∨ n = 0 ∨ 256 < n ∨ 63 < target.getD 0 ∨ 2048 < slot + n ∨ 2097152 < line + n
    ∨ (line < 1048576 ∧ 1048576 < line + n) ∨ (two = false ∧ 1048576 ≤ line)

/-- R57: the position is absent or not REPLACE. -/
def targetFails (target : Option Nat) : Bool :=
  (target.map fun t => ((stagedAt s.staged t).bind Entry.slotRun).isNone).getD false

theorem cmdFill_busy {args : List Byte} (hlen : args.length = 8 ∨ args.length = 9) {j : FillJob}
    (h : s.fill.job = some j) : cmdFill args s = ((.busy, []), s) := by
  simp [cmdFill, hlen, h]

theorem not_installed_iff (line : Nat) :
    ¬ installed s (devOfLine line) = true ↔ s.straps.twoDevices = false ∧ 1048576 ≤ line := by
  rcases hd : devOfLine line with _ | _
  · have := (devOfLine_dev0_iff line).mp hd
    simp [installed]
    omega
  · have := (devOfLine_dev1_iff line).mp hd
    simp [installed, this]

/-- R57: with the engine IDLE and a layout of FILL, the range checks stand first, then the target's, then the slots'. -/
theorem cmdFill_idle {args : List Byte} (hlen : args.length = 8 ∨ args.length = 9) (h : s.fill.job = none) :
    (FillRangeFails s.straps.twoDevices (argField args 0 2) (argField args 2 4) (argField args 6 2) (fillTarget args) →
      cmdFill args s = ((.badArg, []), s))
    ∧ (¬ FillRangeFails s.straps.twoDevices (argField args 0 2) (argField args 2 4) (argField args 6 2)
        (fillTarget args) →
      cmdFill args s =
        if targetFails s (fillTarget args) then ((.badArg, []), s)
        else if anySlot (live s) (argField args 0 2) (argField args 6 2) then ((.refusedLive, []), s)
        else if anySlot (stagedProtected s) (argField args 0 2) (argField args 6 2) then ((.refusedState, []), s)
        else ((.ok, []),
          { s with fill := { job := some { firstSlot := argField args 0 2, firstLine := argField args 2 4,
                                           lineCount := argField args 6 2, target := fillTarget args,
                                           check := 0xFFFF, stage := .waiting, abort := none }
                             progress := 0 } })) := by
  have entered : cmdFill args s =
      (let slot := argField args 0 2
       let line := argField args 2 4
       let count := argField args 6 2
       if slot > 2047 ∨ line > 2097151 ∨ count = 0 ∨ count > 256 ∨ (fillTarget args).getD 0 > 63 then ((.badArg, []), s)
       else if slot + count - 1 > 2047 then ((.badArg, []), s)
       else if line + count - 1 > 2097151
           ∨ (line ≤ Config.deviceLines - 1 ∧ Config.deviceLines ≤ line + count - 1) then ((.badArg, []), s)
       else if ¬ installed s (devOfLine line) then ((.badArg, []), s)
       else if targetFails s (fillTarget args) then ((.badArg, []), s)
       else if anySlot (live s) slot count then ((.refusedLive, []), s)
       else if anySlot (stagedProtected s) slot count then ((.refusedState, []), s)
       else ((.ok, []),
         { s with fill := { job := some { firstSlot := slot, firstLine := line, lineCount := count,
                                          target := fillTarget args, check := crcInit, stage := .waiting, abort := none }
                            progress := 0 } })) := by
    rw [cmdFill, if_neg (not_not_intro hlen), h]
    rfl
  rw [entered]
  generalize argField args 0 2 = slot
  generalize argField args 2 4 = line
  generalize argField args 6 2 = count
  generalize fillTarget args = target
  simp only [not_installed_iff, FillRangeFails, Config.deviceLines]
  refine ⟨fun hfail => ?_, fun hok => ?_⟩
  · split
    · rfl
    split
    · rfl
    split
    · rfl
    refine if_pos ?_
    rcases hfail with h | h | h | h | h | h | h | h | h
    case inr.inr.inr.inr.inr.inr.inr.inr => exact h
    all_goals omega
  · simp only [not_or] at hok
    obtain ⟨h1, h2, h3, h4, h5, h6, h7, h8, absent⟩ := hok
    rw [if_neg (by omega), if_neg (by omega), if_neg (by omega), if_neg absent]
    rfl

/-- R56, R57: a FILL over a free link. -/
theorem exec_fill_answered (t : State) (tag : Byte) (args : List Byte) (status : RespStatus) (hlink : LinkFree s)
    (hload : LoaderIdle s) (hlen : args.length = 8 ∨ args.length = 9)
    (hcmd : cmdFill args s.unlinked = ((status, []), t.unlinked)) :
    exec (.fill tag args) s = .next (t.answered tag status []) :=
  exec_answered s (i := .fill tag args) rfl hlink hload (by omega) t (congrArg Served.of hcmd)

/-- R56: the state once the engine runs with the fields given. -/
def fillStarted (slot line n : Nat) (target : Option Nat) : State :=
  { s with fill := { job := some { firstSlot := slot, firstLine := line, lineCount := n, target := target,
                                   check := 0xFFFF, stage := .waiting, abort := none }
                     progress := 0 } }

theorem slotRun_isNone_iff (e : Entry) :
    e.slotRun.isNone = true ↔ ∀ first follow check, e.mode ≠ .replace first follow check := by
  unfold Entry.slotRun
  cases e.mode <;> simp

theorem targetFails_iff (target : Nat) : targetFails s (some target) = true ↔
    ∀ e first follow check, stagedAt s.staged target = some e → e.mode ≠ .replace first follow check := by
  simp only [targetFails, Option.map_some, Option.getD_some]
  rcases stagedAt s.staged target with _ | e
  · simp
  · simp only [Option.bind_some, slotRun_isNone_iff, Option.some.injEq]
    exact ⟨fun h e' first follow check he => he ▸ h first follow check, fun h first follow check => h e _ _ _ rfl⟩

/-- 12.1: the arguments of a FILL, with the target's byte where one is named. -/
def fillArgs (slot line n : Nat) (target : Option Nat) : List Byte :=
  be16 slot ++ be32 line ++ be16 n ++ (target.map be8).getD []

/-- R57: with slots, lines and target in range, what is left to decide a FILL on are the target and the slots. -/
theorem cmdFill_in_range {slot line n : Nat} {target : Option Nat} (hj : s.fill.job = none) (hslot : slot ≤ 2047)
    (hline : line ≤ 2097151) (hn : n ≤ 256) (ht : target.getD 0 ≤ 63)
    (ok : ¬ FillRangeFails s.straps.twoDevices slot line n target) :
    cmdFill (fillArgs slot line n target) s =
      if targetFails s target then ((.badArg, []), s)
      else if anySlot (live s) slot n then ((.refusedLive, []), s)
      else if anySlot (stagedProtected s) slot n then ((.refusedState, []), s)
      else ((.ok, []), fillStarted s slot line n target) := by
  have field_slot : argField (fillArgs slot line n target) 0 2 = slot := beNat_be16 slot (by omega)
  have field_line : argField (fillArgs slot line n target) 2 4 = line := beNat_be32 line (by omega)
  have field_n : argField (fillArgs slot line n target) 6 2 = n := beNat_be16 n (by omega)
  have layout : ((fillArgs slot line n target).length = 8 ∨ (fillArgs slot line n target).length = 9)
      ∧ fillTarget (fillArgs slot line n target) = target := by
    rcases target with _ | t
    · exact ⟨.inl rfl, rfl⟩
    · exact ⟨.inr rfl, congrArg some (beNat_be8 t (Nat.lt_of_le_of_lt ht (by decide)))⟩
  have decided := (cmdFill_idle s layout.1 hj).2
  rw [field_slot, field_line, field_n, layout.2] at decided
  exact decided ok

theorem exec_abortFill_answered (t : State) (tag : Byte) (status : RespStatus) (hlink : LinkFree s)
    (hload : LoaderIdle s) (hcmd : cmdAbortFill [] s.unlinked = ((status, []), t.unlinked)) :
    exec (.abortFill tag []) s = .next (t.answered tag status []) :=
  exec_answered s (i := .abortFill tag []) rfl hlink hload (by decide) t (congrArg Served.of hcmd)

/-- R62: an ABORT_FILL of a running fill, by its abort cause. -/
theorem cmdAbortFill_running {j : FillJob} (h : s.fill.job = some j) :
    cmdAbortFill [] s = ((.ok, []), if j.abort.isSome then s else stopFill .aborted s) := by
  simp only [cmdAbortFill, h]
  rfl

theorem stopFill_waiting (cause : AbortCause) {j : FillJob} (h : s.fill.job = some j) (hst : j.stage = .waiting) :
    stopFill cause s = fillFails j cause s := by
  simp only [stopFill, h, hst]

theorem stopFill_in_line (cause : AbortCause) {j : FillJob} (h : s.fill.job = some j) (hst : j.stage ≠ .waiting) :
    stopFill cause s = { s with fill := { s.fill with job := some { j with abort := some cause } } } := by
  simp only [stopFill, h]

/-- Settles O15. -/
theorem fillStartsAndAborts : Obligations.FillStartsAndAborts := by
  intro s tag slot line n hlink hload
  refine ⟨fun hlow hhigh hslot hline hside hdev => ?_, fun args hlen => ⟨fun j hj => ?_, fun hj => ?_⟩, fun hj => ?_,
    fun j hj habort => ⟨fun hst => ?_, fun hst => ?_⟩, fun j cause hj habort => ?_⟩
  · intro args running
    have no_target : args = fillArgs slot line n none := (List.append_nil _).symm
    have in_range : ∀ target : Option Nat, target.getD 0 ≤ 63 →
        ¬ FillRangeFails s.straps.twoDevices slot line n target := by
      intro target ht
      have present : ¬ (s.straps.twoDevices = false ∧ 1048576 ≤ line) := fun ⟨h1, h2⟩ =>
        absurd (hdev.resolve_left (by simp [h1])) (by omega)
      simp only [FillRangeFails, not_or]
      exact ⟨by omega, by omega, by omega, by omega, by omega, by omega, by omega, by omega, present⟩
    have decided : ∀ target : Option Nat, target.getD 0 ≤ 63 → s.fill.job = none → _ := fun target ht hj =>
      cmdFill_in_range s.unlinked (slot := slot) (line := line) (n := n) (target := target) hj (by omega) (by omega) hhigh ht
        (in_range target ht)
    have answered : ∀ (t : State) (target : Option Nat) (status : RespStatus),
        cmdFill (fillArgs slot line n target) s.unlinked = ((status, []), t.unlinked) →
        exec (.fill tag (fillArgs slot line n target)) s = .next (t.answered tag status []) := fun t target status h =>
      exec_fill_answered s t tag _ status hlink hload (by cases target <;> simp [fillArgs, be16, be32, be8]) h
    have targeted : ∀ t e first follow check, stagedAt s.staged t = some e → e.mode = .replace first follow check →
        ¬ targetFails s.unlinked (some t) = true := fun t e first follow check he hm =>
      mt (targetFails_iff s.unlinked t).mp fun h => h e first follow check he hm
    have slots_live : (∃ k, k < n ∧ live s (slot + k) = true) → anySlot (live s.unlinked) slot n = true :=
      (anySlot_iff _ _ _).mpr
    have slots_protected : (∃ k, k < n ∧ stagedProtected s (slot + k) = true) →
        anySlot (stagedProtected s.unlinked) slot n = true := (anySlot_iff _ _ _).mpr
    have slots_dead : (∀ k, k < n → live s (slot + k) = false) → ¬ anySlot (live s.unlinked) slot n = true := anySlot_none
    have slots_free : (∀ k, k < n → stagedProtected s (slot + k) = false) →
        ¬ anySlot (stagedProtected s.unlinked) slot n = true := anySlot_none
    have untargeted : ¬ targetFails s.unlinked none = true := Bool.false_ne_true
    rw [no_target]
    refine ⟨fun j hj => ?_, fun hj hlive => ?_, fun hj hdead hprot => ?_, fun hj hfree => ⟨?_, ?_⟩, fun t ht hj hbad => ?_⟩
    · exact answered s none .busy (cmdFill_busy s.unlinked (.inl rfl) hj)
    · refine answered s none .refusedLive ?_
      rw [decided none (Nat.zero_le _) hj, if_neg untargeted, if_pos (slots_live hlive)]
    · refine answered s none .refusedState ?_
      rw [decided none (Nat.zero_le _) hj, if_neg untargeted, if_neg (slots_dead hdead),
        if_pos (slots_protected hprot)]
    · refine answered (fillStarted s slot line n none) none .ok ?_
      rw [decided none (Nat.zero_le _) hj, if_neg untargeted, if_neg (slots_dead fun k hk => (hfree k hk).1),
        if_neg (slots_free fun k hk => (hfree k hk).2)]
      rfl
    · intro t e first follow check ht he hm
      refine answered (fillStarted s slot line n (some t)) (some t) .ok ?_
      rw [decided (some t) ht hj, if_neg (targeted t e first follow check he hm),
        if_neg (slots_dead fun k hk => (hfree k hk).1), if_neg (slots_free fun k hk => (hfree k hk).2)]
      rfl
    · refine answered s (some t) .badArg ?_
      rw [decided (some t) ht hj, if_pos ((targetFails_iff s.unlinked t).mpr hbad)]
  · exact exec_fill_answered s s tag args .busy hlink hload hlen (cmdFill_busy s.unlinked hlen hj)
  · intro slot line n h
    refine exec_fill_answered s s tag args .badArg hlink hload hlen ((cmdFill_idle s.unlinked hlen hj).1 ?_)
    rcases h with h | h | h | h | ⟨hl, h⟩ | h | h | h | h
    case inr.inr.inr.inr.inl =>
      refine .inr (.inr (.inr (.inr (.inl ?_))))
      rw [fillTarget, if_pos hl]
      exact h
    all_goals simp only [FillRangeFails]; tauto
  · refine exec_abortFill_answered s s tag .refusedState hlink hload ?_
    simp only [cmdAbortFill, show s.unlinked.fill.job = none from hj]
    rfl
  · refine exec_abortFill_answered s _ tag .ok hlink hload ((cmdAbortFill_running s.unlinked hj).trans ?_)
    rw [habort, stopFill_waiting s.unlinked .aborted hj hst]
    rfl
  · refine exec_abortFill_answered s _ tag .ok hlink hload ((cmdAbortFill_running s.unlinked hj).trans ?_)
    rw [habort, stopFill_in_line s.unlinked .aborted hj hst]
    rfl
  · refine exec_abortFill_answered s s tag .ok hlink hload ((cmdAbortFill_running s.unlinked hj).trans ?_)
    rw [habort]
    rfl

end Sys2Proof.Machine
end

section
/-! PROOFS. The other requests of the link: the summary and the identity, STAGE_ENTRY, the store pointer and the store
requests, the tracker, the lock map, the policies and the enable set. -/

namespace Sys2Proof.Machine

set_option Elab.async false

variable (s : State)

/-! ### GET_IDENTITY and GET_STATUS -/

theorem exec_getIdentity_answered (tag : Byte) (hlink : LinkFree s) : exec (.getIdentity tag []) s
    = .next (s.answered tag .ok [0x64, 0x20, 0x01, 0x08, 0x00, 0x40, if s.straps.twoDevices then 2 else 1]) := by
  have replied : cmdGetIdentity [] s.unlinked
      = ((.ok, [0x64, 0x20, 0x01, 0x08, 0x00, 0x40, if s.straps.twoDevices then 2 else 1]), s.unlinked) := by
    have installed_byte : ∀ two : Bool, be8 (if two then 2 else 1) = [if two then 2 else 1] := by
      rintro (_ | _) <;> rfl
    exact congrArg (fun l => ((RespStatus.ok, [0x64, 0x20, 0x01, 0x08, 0x00, 0x40] ++ l), s.unlinked))
      (installed_byte s.straps.twoDevices)
  exact congrArg Host.Outcome.next (request_answered_of_loaderAnswers s s codeGetIdentity tag [] .ok _ hlink (by decide)
    (by decide) (by decide) (congrArg Served.of replied))

/-- Settles O5: the summary is the layout of 12.3. -/
theorem identityAndStatusAreAnswered : Obligations.IdentityAndStatusAreAnswered := by
  intro s tag hlink
  refine ⟨exec_getIdentity_answered s tag hlink, (exec_getStatus_answered s tag hlink).trans ?_⟩
  have running : ∀ o : Option FillJob, boolNat o.isSome = if o = none then 0 else 1 := by
    rintro (_ | _) <;> rfl
  have count : ∀ r : Record, be8 ((r.erase.map (·.count)).getD 255)
      = be8 (match r.erase with | some e => e.count | none => 0xFF) := fun r => by
    rcases r.erase with _ | _ <;> rfl
  have layout : summaryBytes s = be8 s.commit.code ++ be16 s.generation.toNat ++ be8 (boolNat s.fill.job.isSome)
      ++ be16 s.fill.progress ++ be8 s.loader.state.code ++ be8 s.notices.queue.length
      ++ be8 s.tracker.dev0.record.code ++ be8 s.tracker.dev1.record.code
      ++ be8 ((s.tracker.dev0.record.erase.map (·.count)).getD 255)
      ++ be8 ((s.tracker.dev1.record.erase.map (·.count)).getD 255) ++ be16 s.ptr.slot ++ be8 s.ptr.offset := rfl
  rw [layout, running, count, count] <;> rfl

/-! ### STAGE_ENTRY -/

theorem cmdStageEntry_staged {args : List Byte} {a : EntryArgs} {e : Entry} (hlen : args.length = 16)
    (ha : EntryArgs.ofBytes args = a) (hw : a.wellFormed = true) (hc : s.commit = .idle) (he : a.entry = some e) :
    cmdStageEntry args s = ((.ok, []), { s with staged := s.staged.setIfInBounds a.index (some e) }) := by
  simp [cmdStageEntry, ha, hlen, hw, hc, he]

theorem cmdStageEntry_refused {args : List Byte} (hc : s.commit = .idle)
    (h : (EntryArgs.ofBytes args).wellFormed = false ∨ (EntryArgs.ofBytes args).entry = none) :
    cmdStageEntry args s = ((.badArg, []), s) := by
  simp only [cmdStageEntry]
  split
  · rfl
  · rename_i hw
    rcases h with h | h
    · simp [h] at hw
    · simp [hc, h]

/-- R30: the checks that do not depend on the mode. -/
theorem entry_out_of_range (a : EntryArgs) (h : 63 < a.index ∨ a.mode = 0 ∨ 3 < a.mode ∨ 2097151 < a.firstLine
    ∨ a.lineCount = 0 ∨ 256 < a.lineCount) : a.entry = none := by
  simp only [EntryArgs.entry]
  split
  · rfl
  split
  · rfl
  split
  · rfl
  exact if_pos (by omega)

/-- R30: what is in range whatever the mode. -/
theorem entry_in_range {a : EntryArgs} (h1 : a.index ≤ 63) (h2 : 1 ≤ a.mode ∧ a.mode ≤ 3) (h3 : a.firstLine ≤ 2097151)
    (h4 : 1 ≤ a.lineCount ∧ a.lineCount ≤ 256) : a.entry =
      if a.mode = 1 then
        if ¬ (a.has maskSlot ∧ a.has maskFollow) then none
        else if a.has maskFillWord then none
        else if a.slot > 2047 then none
        else match natBool a.follow with
          | none => none
          | some f =>
            let check := if a.has maskCheck then some (BitVec.ofNat 16 a.check) else none
            some { firstLine := a.firstLine, lineCount := a.lineCount, mode := .replace a.slot f check }
      else if a.mode = 2 then
        if ¬ a.has maskFillWord then none
        else if a.has maskSlot ∨ a.has maskFollow ∨ a.has maskCheck then none
        else some { firstLine := a.firstLine, lineCount := a.lineCount, mode := .blank (BitVec.ofNat 16 a.fillWord) }
      else if a.mask ≠ 0 then none
      else some { firstLine := a.firstLine, lineCount := a.lineCount, mode := .trap } := by
  rw [EntryArgs.entry, if_neg (by omega), if_neg (by omega), if_neg (by omega), if_neg (by omega)] <;> rfl

/-- R30: a REPLACE entry takes its slot and its follow value, no fill word, and holds neither out of its range. -/
theorem entry_replace_refused (a : EntryArgs) (hm : a.mode = 1) (h : ¬ (a.has maskSlot = true ∧ a.has maskFollow = true)
    ∨ a.has maskFillWord = true ∨ 2047 < a.slot ∨ 1 < a.follow) : a.entry = none := by
  by_cases range : 63 < a.index ∨ a.mode = 0 ∨ 3 < a.mode ∨ 2097151 < a.firstLine ∨ a.lineCount = 0 ∨ 256 < a.lineCount
  · exact entry_out_of_range a range
  rw [entry_in_range (by omega) (by omega) (by omega) (by omega), if_pos hm]
  split
  · rfl
  split
  · rfl
  split
  · rfl
  rename_i given bare low
  have high : 1 < a.follow := ((h.resolve_left (not_not_intro (not_not.mp given))).resolve_left bare).resolve_left low
  match hf : a.follow with
  | 0 => omega
  | 1 => omega
  | n + 2 => rfl

/-- R30: a BLANK entry takes its fill word and no other field. -/
theorem entry_blank_refused (a : EntryArgs) (hm : a.mode = 2) (h : ¬ a.has maskFillWord = true
    ∨ a.has maskSlot = true ∨ a.has maskFollow = true ∨ a.has maskCheck = true) : a.entry = none := by
  by_cases range : 63 < a.index ∨ a.mode = 0 ∨ 3 < a.mode ∨ 2097151 < a.firstLine ∨ a.lineCount = 0 ∨ 256 < a.lineCount
  · exact entry_out_of_range a range
  rw [entry_in_range (by omega) (by omega) (by omega) (by omega), if_neg (by omega), if_pos hm]
  split
  · rfl
  · rename_i given
    exact if_pos (h.resolve_left given)

/-- R30: a TRAP entry takes no field. -/
theorem entry_trap_refused (a : EntryArgs) (hm : a.mode = 3) (h : a.mask ≠ 0) : a.entry = none := by
  by_cases range : 63 < a.index ∨ a.mode = 0 ∨ 3 < a.mode ∨ 2097151 < a.firstLine ∨ a.lineCount = 0 ∨ 256 < a.lineCount
  · exact entry_out_of_range a range
  rw [entry_in_range (by omega) (by omega) (by omega) (by omega), if_neg (by omega), if_neg (by omega), if_pos h]

/-- R210: a mask with a bit that stands for no field, or a field that is not given and is not 0. -/
theorem wellFormed_refused (a : EntryArgs) (h : 15 < a.mask ∨ (¬ a.has maskSlot = true ∧ a.slot ≠ 0)
    ∨ (¬ a.has maskFollow = true ∧ a.follow ≠ 0) ∨ (¬ a.has maskCheck = true ∧ a.check ≠ 0)
    ∨ (¬ a.has maskFillWord = true ∧ a.fillWord ≠ 0)) : a.wellFormed = false := by
  rw [← Bool.not_eq_true]
  simp only [EntryArgs.wellFormed, Bool.and_eq_true, decide_eq_true_eq, Bool.or_eq_true, beq_iff_eq]
  rintro ⟨⟨⟨⟨mask, slot⟩, follow⟩, check⟩, fillWord⟩
  rcases h with h | ⟨h, g⟩ | ⟨h, g⟩ | ⟨h, g⟩ | ⟨h, g⟩
  · omega
  · exact slot.elim h g
  · exact follow.elim h g
  · exact check.elim h g
  · exact fillWord.elim h g

theorem exec_stageEntry_answered (t : State) (tag : Byte) (args : List Byte) (status : RespStatus) (hlink : LinkFree s)
    (hload : LoaderIdle s) (hlen : args.length = 16) (hcmd : cmdStageEntry args s.unlinked = ((status, []), t.unlinked)) :
    exec (.stageEntry tag args) s = .next (t.answered tag status []) :=
  exec_answered s (i := .stageEntry tag args) rfl hlink hload (by omega) t (congrArg Served.of hcmd)

/-- 12.1: the arguments of STAGE_ENTRY, field by field. -/
theorem entryArgs_ofBytes {i mode line n mask slot follow check fillWord : Nat} (h1 : i < 256) (h2 : mode < 256)
    (h3 : line < 4294967296) (h4 : n < 65536) (h5 : mask < 256) (h6 : slot < 65536) (h7 : follow < 256)
    (h8 : check < 65536) (h9 : fillWord < 65536) :
    EntryArgs.ofBytes (be8 i ++ be8 mode ++ be32 line ++ be16 n ++ be8 mask ++ be16 slot ++ be8 follow ++ be16 check
      ++ be16 fillWord) = { index := i, mode := mode, firstLine := line, lineCount := n, mask := mask, slot := slot,
                            follow := follow, check := check, fillWord := fillWord } :=
  EntryArgs.mk.injEq .. |>.mpr ⟨beNat_be8 i h1, beNat_be8 mode h2, beNat_be32 line h3, beNat_be16 n h4, beNat_be8 mask h5,
    beNat_be16 slot h6, beNat_be8 follow h7, beNat_be16 check h8, beNat_be16 fillWord h9⟩

/-- Settles O6. -/
theorem stageEntryStagesTheFieldsGiven : Obligations.StageEntryStagesTheFieldsGiven := by
  intro s tag i line n hlink hload hc hi hline hlow hhigh
  have staged : ∀ (args : List Byte) (a : EntryArgs) (e : Entry), args.length = 16 → EntryArgs.ofBytes args = a →
      a.wellFormed = true → a.entry = some e → a.index = i → exec (.stageEntry tag args) s
        = .next (State.answered tag .ok [] { s with staged := s.staged.setIfInBounds i (some e) }) := by
    rintro args a e hlen ha hw he rfl
    exact exec_stageEntry_answered s _ tag args .ok hlink hload hlen
      (cmdStageEntry_staged s.unlinked hlen ha hw hc he)
  have refused : ∀ args : List Byte, args.length = 16 →
      (EntryArgs.ofBytes args).wellFormed = false ∨ (EntryArgs.ofBytes args).entry = none →
      exec (.stageEntry tag args) s = .next (s.answered tag .badArg []) := fun args hlen h =>
    exec_stageEntry_answered s s tag args .badArg hlink hload hlen (cmdStageEntry_refused s.unlinked hc h)
  refine ⟨fun slot follow check hslot => ?_, fun w => ?_, ?_, fun args hlen h => ?_, fun args hlen => ?_⟩
  · refine staged _ _ _ rfl (entryArgs_ofBytes (by omega) (by omega) (by omega) (by omega) (by split <;> omega) (by omega)
      (by split <;> omega) (check.getD 0).isLt (by omega)) ?_ ?_ rfl
    · rcases check with _ | c <;> rcases follow with _ | _ <;> simp [EntryArgs.wellFormed, EntryArgs.has, maskSlot, maskFollow, maskCheck, maskFillWord]
    · rw [entry_in_range hi ⟨by simp, by simp⟩ hline ⟨hlow, hhigh⟩]
      rcases check with _ | c <;> rcases follow with _ | _ <;>
        simp [EntryArgs.has, maskSlot, maskFollow, maskCheck, maskFillWord, natBool, Nat.not_lt.mpr hslot]
  · refine staged _ _ _ rfl (entryArgs_ofBytes (by omega) (by omega) (by omega) (by omega) (by omega) (by omega)
      (by omega) (by omega) w.isLt) ?_ ?_ rfl
    · simp [EntryArgs.wellFormed, EntryArgs.has, maskSlot, maskFollow, maskCheck, maskFillWord]
    · rw [entry_in_range hi ⟨by simp, by simp⟩ hline ⟨hlow, hhigh⟩]
      simp [EntryArgs.has, maskSlot, maskFollow, maskCheck, maskFillWord]
  · refine staged _ _ _ rfl (entryArgs_ofBytes (by omega) (by omega) (by omega) (by omega) (by omega) (by omega)
      (by omega) (by omega) (by omega)) ?_ ?_ rfl
    · simp [EntryArgs.wellFormed, EntryArgs.has]
    · rw [entry_in_range hi ⟨by simp, by simp⟩ hline ⟨hlow, hhigh⟩]
      simp
  · exact refused args hlen (.inr (entry_out_of_range _ h))
  · intro mode mask slot follow check fillWord h
    have bits : ((EntryArgs.ofBytes args).has maskSlot = true ↔ slot) ∧ ((EntryArgs.ofBytes args).has maskFollow = true ↔ follow)
        ∧ ((EntryArgs.ofBytes args).has maskCheck = true ↔ check)
        ∧ ((EntryArgs.ofBytes args).has maskFillWord = true ↔ fillWord) := by
      simp [EntryArgs.has, EntryArgs.ofBytes, maskSlot, maskFollow, maskCheck, maskFillWord, slot, follow, check, fillWord, mask]
    obtain ⟨bit_slot, bit_follow, bit_check, bit_fillWord⟩ := bits
    have replace := entry_replace_refused (EntryArgs.ofBytes args)
    have blank := entry_blank_refused (EntryArgs.ofBytes args)
    have trap := entry_trap_refused (EntryArgs.ofBytes args)
    have form := wellFormed_refused (EntryArgs.ofBytes args)
    rw [bit_slot, bit_follow, bit_fillWord] at replace
    rw [bit_slot, bit_follow, bit_check, bit_fillWord] at blank form
    refine refused args hlen ?_
    rcases h with ⟨hm, h⟩ | ⟨hm, h⟩ | ⟨hm, h⟩ | ⟨hm, h⟩ | ⟨hm, h⟩ | ⟨hm, h⟩ | ⟨hm, h⟩ | h
    · exact .inr (replace hm (.inl fun ⟨h1, h2⟩ => h.elim (· h1) (· h2)))
    · exact .inr (blank hm (.inl h))
    · exact .inr (replace hm (.inr (.inl h)))
    · exact .inr (blank hm (.inr h))
    · exact .inr (trap hm h)
    · exact .inr (replace hm (.inr (.inr (.inl h))))
    · exact .inr (replace hm (.inr (.inr (.inr h))))
    · exact .inl (form h)

end Sys2Proof.Machine
end

section
/-! PROOFS. READ_ENTRY, the store pointer and the store requests, the tracker, the lock map, the policies, the enable set. -/

namespace Sys2Proof.Machine

set_option Elab.async false

variable (s : State)

/-! ### READ_ENTRY -/

theorem argField_second (a b : Byte) (rest : List Byte) : argField (a :: b :: rest) 1 1 = b.toNat := by
  simp [argField, beNat]

theorem exec_readEntry_answered (tag b i : Byte) (status : RespStatus) (payload : List Byte) (hlink : LinkFree s)
    (hload : LoaderIdle s) (hcmd : cmdReadEntry [b, i] s.unlinked = ((status, payload), s.unlinked)) :
    exec (.readEntry tag [b, i]) s = .next (s.answered tag status payload) :=
  exec_answered s (i := .readEntry tag [b, i]) rfl hlink hload (by simp) s (congrArg Served.of hcmd)

theorem cmdReadEntry_out_of_range (b i : Byte) (h : 1 < b.toNat ∨ 63 < i.toNat) :
    cmdReadEntry [b, i] s = ((.badArg, []), s) := by
  simp [cmdReadEntry, argField_second, h]

theorem cmdReadEntry_active (i : Byte) (hi : i.toNat ≤ 63) : cmdReadEntry [0, i] s =
    match activeAt s.active i.toNat with
    | none => ((.ok, be8 0), s)
    | some a => ((.ok, be8 1 ++ entryBytes a.entry ++ be32 a.hitCount ++ be16 s.generation.toNat), s) := by
  simp only [cmdReadEntry, argField_first, argField_second]
  rw [if_neg (by simp), if_neg (by simpa using hi), if_pos (show BitVec.toNat (0 : Byte) = 0 from rfl)] <;> rfl

theorem cmdReadEntry_staged (i : Byte) (hi : i.toNat ≤ 63) : cmdReadEntry [1, i] s =
    match stagedAt s.staged i.toNat with
    | none => ((.ok, be8 0), s)
    | some e => ((.ok, be8 1 ++ entryBytes e), s) := by
  simp only [cmdReadEntry, argField_first, argField_second]
  rw [if_neg (by simp), if_neg (by simpa using hi), if_neg (by decide)] <;> rfl

/-- Settles O12: the record of a present entry is the layout of 12.2. -/
theorem readEntryReportsThePosition : Obligations.ReadEntryReportsThePosition := by
  intro s tag b i hlink hload entry
  have layout : ∀ e : Entry, be8 1 ++ entryBytes e = entry e := by
    intro e
    simp only [entryBytes, entry]
    rcases e.mode with ⟨slot, follow, check⟩ | w | _
    · rcases check with _ | c <;> cases follow <;> rfl
    · rfl
    · rfl
  refine ⟨fun h => ?_, fun hi => ⟨fun ha => ?_, fun a ha => ?_, fun he => ?_, fun e he => ?_⟩⟩
  · exact exec_readEntry_answered s tag b i .badArg [] hlink hload (cmdReadEntry_out_of_range s.unlinked b i h)
  · refine exec_readEntry_answered s tag 0 i .ok [0] hlink hload ?_
    rw [cmdReadEntry_active s.unlinked i hi, show activeAt s.unlinked.active i.toNat = none from ha]
    rfl
  · refine exec_readEntry_answered s tag 0 i .ok _ hlink hload ?_
    rw [cmdReadEntry_active s.unlinked i hi, show activeAt s.unlinked.active i.toNat = some a from ha, ← layout]
    rfl
  · refine exec_readEntry_answered s tag 1 i .ok [0] hlink hload ?_
    rw [cmdReadEntry_staged s.unlinked i hi, show stagedAt s.unlinked.staged i.toNat = none from he]
    rfl
  · refine exec_readEntry_answered s tag 1 i .ok _ hlink hload ?_
    rw [cmdReadEntry_staged s.unlinked i hi, show stagedAt s.unlinked.staged i.toNat = some e from he, ← layout]

/-! ### The store pointer and the store requests -/

/-- Settles O13. -/
theorem setStorePointerMovesThePointer : Obligations.SetStorePointerMovesThePointer := by
  intro s tag s1 s0 o hlink hload slot
  have field_slot : argField [s1, s0, o] 0 2 = slot := by simp [argField, beNat, slot]
  have field_offset : argField [s1, s0, o] 2 1 = o.toNat := by simp [argField, beNat]
  refine ⟨fun hslot ho => ?_, fun h => ?_⟩
  · refine exec_answered s (i := .setStorePointer tag [s1, s0, o]) rfl hlink hload (by simp)
      { s with ptr := { slot := slot, offset := o.toNat } } (congrArg Served.of ?_)
    change cmdSetStorePointer [s1, s0, o] s.unlinked = _
    rw [cmdSetStorePointer, field_slot, field_offset, if_neg (by simp), if_neg (by omega)]
    rfl
  · refine exec_answered s (i := .setStorePointer tag [s1, s0, o]) rfl hlink hload (by simp) s (congrArg Served.of ?_)
    change cmdSetStorePointer [s1, s0, o] s.unlinked = _
    rw [cmdSetStorePointer, field_slot, field_offset, if_neg (by simp)]
    exact if_pos h

/-- R209: the words of a WRITE_STORE come back from its bytes. -/
theorem wordsOf_flatMap (pre : List Byte) (words : List Word) :
    wordsOf (pre ++ words.flatMap fun w => be16 w.toNat) pre.length words.length = words := by
  induction words generalizing pre with
  | nil => rfl
  | cons w words ih =>
    have rest := ih (pre ++ be16 w.toNat)
    have field : argField (pre ++ (be16 w.toNat ++ words.flatMap fun w => be16 w.toNat)) pre.length 2 = w.toNat := by
      rw [argField, List.drop_left, show ∀ l : List Byte, (be16 w.toNat ++ l).take 2 = be16 w.toNat from fun _ => rfl]
      exact beNat_be16 _ w.isLt
    simp only [List.flatMap_cons, List.length_cons, wordsOf, field, BitVec.ofNat_toNat, BitVec.setWidth_eq]
    simp only [List.append_assoc, List.length_append, show (be16 w.toNat).length = 2 from rfl] at rest
    rw [rest]

theorem flatMap_be16_length (words : List Word) : (words.flatMap fun w => be16 w.toNat).length = 2 * words.length := by
  induction words with
  | nil => rfl
  | cons w words ih =>
    rw [List.flatMap_cons, List.length_append, ih, List.length_cons, show (be16 w.toNat).length = 2 from rfl]
    omega

/-- R191: a request that goes into processing on a free link. -/
theorem exec_processing {i : Instr} {code tag : Byte} {args : List Byte} (hi : i.request = some (code, tag, args))
    (hlink : LinkFree s) (hload : LoaderIdle s) (hargs : args.length ≤ 1024) (w : StoreWork)
    (hrun : runCommand (goodFrame code tag args) s.unlinked = .working w s.unlinked)
    (hcode : knownCodes.contains code = true := by decide) :
    exec i s = .next (s.processing (goodFrame code tag args) w) := by
  have served := (serve_known s.unlinked (goodFrame code tag args) rfl hcode (.inl hload)).trans hrun
  rw [exec_request s hi, request_free s code tag args hlink hargs, beginProcessing, served]
  rfl

/-- R54: the arguments of a WRITE_STORE. -/
def writeArgs (n : Nat) (words : List Word) : List Byte := be16 n ++ words.flatMap fun w => be16 w.toNat

theorem cmdWriteStore_fields {n : Nat} {words : List Word} (hn : n < 65536) : cmdWriteStore (writeArgs n words) s =
    if n = 0 ∨ n > 256 ∨ n ≠ words.length then .reply (.badArg, storePayload 0 s) s
    else if s.ptr.atEnd then .reply (.badArg, storePayload 0 s) s
    else .working (.write words 0) s := by
  have len : (writeArgs n words).length = 2 + 2 * words.length := by
    rw [writeArgs, List.length_append, flatMap_be16_length]
    rfl
  have field : argField (writeArgs n words) 0 2 = n := beNat_be16 n hn
  have carried : (2 + 2 * words.length - 2) / 2 = words.length := by omega
  have moved : wordsOf (writeArgs n words) 2 words.length = words := wordsOf_flatMap (be16 n) words
  simp only [cmdWriteStore, len, field, carried, moved]
  rw [if_neg (by omega)]

theorem cmdReadStore_fields {n : Nat} (hn : n < 65536) : cmdReadStore (be16 n) s =
    if n = 0 ∨ n > 256 then .reply (.badArg, storePayload 0 s) s
    else if s.ptr.atEnd then .reply (.badArg, storePayload 0 s) s
    else .working (.read n []) s := by
  have field : argField (be16 n) 0 2 = n := beNat_be16 n hn
  simp only [cmdReadStore, field]
  exact if_neg (by simp [be16])

theorem atEnd_iff (p : StorePtr) : p.atEnd = true ↔ p.slot = 2048 := by
  simp [StorePtr.atEnd, Config.slots]

/-- Settles O14. -/
theorem storeRequestsGoIntoProcessing : Obligations.StoreRequestsGoIntoProcessing := by
  intro s tag words n hlink hload hn hwords wargs nothing
  have len : ∀ count, (wargs count).length ≤ 1024 := fun count => by
    rw [List.length_append, flatMap_be16_length, show (be16 count).length = 2 from rfl]
    omega
  have ended : s.unlinked.ptr.atEnd = true ↔ s.ptr.slot = 2048 := atEnd_iff s.ptr
  refine ⟨fun hptr => ⟨fun hlow hhigh => ?_, fun hlow hhigh => ?_⟩, fun h => ?_, fun h => ?_⟩
  · refine exec_processing s (i := .writeStore tag (wargs words.length)) rfl hlink hload (len _) _ ?_
    change cmdWriteStore (writeArgs words.length words) s.unlinked = _
    rw [cmdWriteStore_fields s.unlinked (by omega), if_neg (by omega), if_neg (mt ended.mp hptr)]
  · refine exec_processing s (i := .readStore tag (be16 n)) rfl hlink hload (by simp [be16]) _ ?_
    change cmdReadStore (be16 n) s.unlinked = _
    rw [cmdReadStore_fields s.unlinked hn, if_neg (by omega), if_neg (mt ended.mp hptr)]
  · refine exec_answered s (i := .readStore tag (be16 n)) rfl hlink hload (by simp [be16]) s ?_
    change cmdReadStore (be16 n) s.unlinked = _
    rw [cmdReadStore_fields s.unlinked hn]
    split
    · rfl
    · exact if_pos (ended.mpr (h.resolve_right (by omega)))
  · refine exec_answered s (i := .writeStore tag (wargs n)) rfl hlink hload (len _) s ?_
    change cmdWriteStore (writeArgs n words) s.unlinked = _
    rw [cmdWriteStore_fields s.unlinked hn]
    split
    · rfl
    · exact if_pos (ended.mpr (h.resolve_right (by omega)))

/-! ### READ_TRACKER -/

theorem cmdReadTracker_no_device (b : Byte) (h : 1 < b.toNat) : cmdReadTracker [b] s = ((.badArg, []), s) := by
  simp [cmdReadTracker, devOfNumber_eq_none _ h]

/-- 12.3: a BUSY_ERASE record with its erase fields. -/
theorem recordBytes_busyErase (sector target : Nat) (e : EraseFields) : recordBytes (.busyErase sector target (some e))
    = [8, 0x03, 0x89] ++ be16 sector ++ [0, 0, 0, 0, 0] ++ be32 target ++ [0, 0, 0, 0] ++ be8 e.count
      ++ be8 e.snapshot ++ [if e.disabled then 1 else 0] := by
  rw [← be8_boolNat]
  simp only [recordBytes, Record.code, Record.commandSector, Record.held, Record.target, Record.data, Record.suspension,
    Record.erase, Option.isSome_some, Option.isSome_none, Bool.false_eq_true, if_true, if_false, Nat.reduceAdd]
  rfl

/-- Settles O16. -/
theorem readTrackerReportsTheRecord : Obligations.ReadTrackerReportsTheRecord := by
  intro s tag hlink hload
  refine ⟨exec_readTracker_device s tag 0 .dev0 hlink hload rfl, exec_readTracker_device s tag 1 .dev1 hlink hload rfl,
    fun d hd => ?_, fun sector target e he => ?_⟩
  · exact exec_answered s (i := .readTracker tag [d]) rfl hlink hload (by simp) s
      (congrArg Served.of (cmdReadTracker_no_device s.unlinked d hd))
  · rw [exec_readTracker_device s tag 0 .dev0 hlink hload rfl,
      show (s.tracker.get .dev0).record = .busyErase sector target (some e) from he, recordBytes_busyErase]

/-! ### The lock map -/

theorem lockOf_code (l : Lock) : lockOf l.code = some l := by
  cases l <;> rfl

theorem sectorRangeFails_iff (first count : Nat) (hf : first ≤ 511) (hlow : 1 ≤ count) (hhigh : count ≤ 512) :
    sectorRangeFails first count = true ↔ 512 < first + count := by
  simp only [sectorRangeFails, Bool.or_eq_true, decide_eq_true_eq]
  omega

/-- Settles O17. -/
theorem setLockSkipsFrozenSectors : Obligations.SetLockSkipsFrozenSectors := by
  intro s tag first count l hlink hload hf hlow hhigh
  have range := sectorRangeFails_iff first count hf hlow hhigh
  have set_first : argField (be16 first ++ be16 count ++ be8 l.code) 0 2 = first := beNat_be16 first (by omega)
  have set_count : argField (be16 first ++ be16 count ++ be8 l.code) 2 2 = count := beNat_be16 count (by omega)
  have set_lock : lockOf (argField (be16 first ++ be16 count ++ be8 l.code) 4 1) = some l := by
    rw [← lockOf_code l]
    exact congrArg lockOf (beNat_be8 l.code (by cases l <;> decide))
  have read_first : argField (be16 first ++ be16 count) 0 2 = first := beNat_be16 first (by omega)
  have read_count : argField (be16 first ++ be16 count) 2 2 = count := beNat_be16 count (by omega)
  refine ⟨fun hr => ⟨applyLock first count l s, skippedCount s first count, ?_, ?_, lockAt_applyLock s first count l, rfl⟩,
    fun hr => ?_, fun hr => ⟨?_, ?_⟩⟩
  · refine exec_answered s (i := .setLock tag (be16 first ++ be16 count ++ be8 l.code)) rfl hlink hload
      (by simp [be16, be8]) _ (congrArg Served.of ?_)
    change cmdSetLock (be16 first ++ be16 count ++ be8 l.code) s.unlinked = _
    rw [cmdSetLock, set_first, set_count, set_lock, if_neg (by simp [be16, be8]), if_neg (by simpa [range] using hr)]
    rfl
  · simp only [skippedCount, List.countP_eq_length_filter]
    congr 2
  · refine exec_answered s (i := .readLocks tag (be16 first ++ be16 count)) rfl hlink hload
      (by simp [be16]) s (congrArg Served.of ?_)
    change cmdReadLocks (be16 first ++ be16 count) s.unlinked = _
    rw [cmdReadLocks, read_first, read_count, if_neg (by simp [be16]), if_neg (by simpa [range] using hr),
      List.map_eq_flatMap]
    rfl
  · refine exec_answered s (i := .setLock tag (be16 first ++ be16 count ++ be8 l.code)) rfl hlink hload
      (by simp [be16, be8]) s (congrArg Served.of ?_)
    change cmdSetLock (be16 first ++ be16 count ++ be8 l.code) s.unlinked = _
    rw [cmdSetLock, set_first, set_count, if_neg (by simp [be16, be8]), if_pos (range.mpr hr)]
    rfl
  · refine exec_answered s (i := .readLocks tag (be16 first ++ be16 count)) rfl hlink hload
      (by simp [be16]) s (congrArg Served.of ?_)
    change cmdReadLocks (be16 first ++ be16 count) s.unlinked = _
    rw [cmdReadLocks, read_first, read_count, if_neg (by simp [be16]), if_pos (range.mpr hr)]

/-! ### SET_POLICY -/

/-- R107: the ranges of the policy fields. -/
def Policy.InRange (p : Policy) : Prop :=
  p.budget ≤ 15 ∧ 10 ≤ p.resumeIdle ∧ p.resumeIdle ≤ 1000 ∧ p.minRun ≤ 5000 ∧ 100 ≤ p.holdMax
    ∧ p.holdMax ≤ 10000 ∧ 100 ≤ p.stallTimeout ∧ p.stallTimeout ≤ 50000

/-- R107: the fields of a policy give it back, all or none. -/
theorem policyOf_fields (p : Policy) : (p.InRange → policyOf p.missPolicy.code (boolNat p.autoSuspend) p.budget p.resumeIdle
      p.minRun p.holdMax p.stallTimeout p.faultWord.toNat = some p)
    ∧ (¬ p.InRange → policyOf p.missPolicy.code (boolNat p.autoSuspend) p.budget p.resumeIdle p.minRun p.holdMax
      p.stallTimeout p.faultWord.toNat = none) := by
  have entered : policyOf p.missPolicy.code (boolNat p.autoSuspend) p.budget p.resumeIdle p.minRun p.holdMax
      p.stallTimeout p.faultWord.toNat =
        if p.budget > 15 then none
        else if p.resumeIdle < 10 ∨ p.resumeIdle > 1000 then none
        else if p.minRun > 5000 then none
        else if p.holdMax < 100 ∨ p.holdMax > 10000 then none
        else if p.stallTimeout < 100 ∨ p.stallTimeout > 50000 then none
        else some p := by
    rcases p with ⟨miss, auto, _, _, _, _, _, fault⟩
    cases miss <;> cases auto <;> simp [policyOf, missPolicyOf, MissPolicy.code, natBool, boolNat]
  rw [entered]
  refine ⟨fun ⟨h1, h2, h3, h4, h5, h6, h7, h8⟩ => ?_, fun h => ?_⟩
  · rw [if_neg (by omega), if_neg (by omega), if_neg (by omega), if_neg (by omega), if_neg (by omega)]
  · simp only [Policy.InRange] at h
    split
    · rfl
    split
    · rfl
    split
    · rfl
    split
    · rfl
    exact if_pos (by omega)

/-- Settles O18. -/
theorem setPolicySetsAllEightFields : Obligations.SetPolicySetsAllEightFields := by
  intro s tag p hlink hload hb hri hmr hhm hst args inRange
  have layout : ∀ d : Byte, args d = be8 d.toNat ++ (be8 p.missPolicy.code ++ be8 (boolNat p.autoSuspend) ++ be8 p.budget
      ++ be16 p.resumeIdle ++ be16 p.minRun ++ be16 p.holdMax ++ be16 p.stallTimeout ++ be16 p.faultWord.toNat) := by
    intro d
    rw [be8_boolNat, show be8 d.toNat = [d] by simp [be8]]
    rcases p with ⟨miss, _⟩
    cases miss <;> rfl
  have len : ∀ d, (args d).length = 14 := fun d => rfl
  have device : ∀ d, argField (args d) 0 1 = d.toNat := fun d => by rw [layout]; exact beNat_be8 _ d.isLt
  have fields : ∀ d, policyOfArgs (args d) = policyOf p.missPolicy.code (boolNat p.autoSuspend) p.budget p.resumeIdle
      p.minRun p.holdMax p.stallTimeout p.faultWord.toNat := by
    intro d
    have miss_small : p.missPolicy.code < 256 := by cases p.missPolicy <;> decide
    have auto_small : boolNat p.autoSuspend < 256 := by cases p.autoSuspend <;> decide
    have f1 : argField (args d) 1 1 = p.missPolicy.code := by rw [layout]; exact beNat_be8 _ miss_small
    have f2 : argField (args d) 2 1 = boolNat p.autoSuspend := by rw [layout]; exact beNat_be8 _ auto_small
    have f3 : argField (args d) 3 1 = p.budget := by rw [layout]; exact beNat_be8 _ hb
    have f4 : argField (args d) 4 2 = p.resumeIdle := by rw [layout]; exact beNat_be16 _ hri
    have f5 : argField (args d) 6 2 = p.minRun := by rw [layout]; exact beNat_be16 _ hmr
    have f6 : argField (args d) 8 2 = p.holdMax := by rw [layout]; exact beNat_be16 _ hhm
    have f7 : argField (args d) 10 2 = p.stallTimeout := by rw [layout]; exact beNat_be16 _ hst
    have f8 : argField (args d) 12 2 = p.faultWord.toNat := by rw [layout]; exact beNat_be16 _ p.faultWord.isLt
    rw [policyOfArgs, f1, f2, f3, f4, f5, f6, f7, f8]
  have replied : ∀ d, cmdSetPolicy (args d) s.unlinked = match devOfNumber d.toNat, policyOfArgs (args d) with
      | some e, some q => ((.ok, []), { s.unlinked with policy := s.policy.set e q })
      | _, _ => ((.badArg, []), s.unlinked) := fun d => by
    rw [cmdSetPolicy, if_neg (not_not_intro (len d)), device]
    rfl
  have answered : ∀ (d : Byte) (t : State) (status : RespStatus),
      cmdSetPolicy (args d) s.unlinked = ((status, []), t.unlinked) →
      exec (.setPolicy tag (args d)) s = .next (t.answered tag status []) := fun d t status h =>
    exec_answered s (i := .setPolicy tag (args d)) rfl hlink hload (by rw [len]; decide) t (congrArg Served.of h)
  refine ⟨fun hr => ⟨?_, ?_⟩, fun d h => ?_⟩
  · refine answered 0 _ .ok ?_
    rw [replied, fields, (policyOf_fields p).1 hr]
    rfl
  · refine answered 1 _ .ok ?_
    rw [replied, fields, (policyOf_fields p).1 hr]
    rfl
  · refine answered d s .badArg ?_
    rw [replied]
    rcases h with h | h
    · rw [fields, (policyOf_fields p).2 h]
      split <;> simp_all
    · rw [devOfNumber_eq_none _ h]

/-! ### SET_NOTICE_ENABLE -/

/-- R164: one byte for each flag. -/
def enableBytes (v : Vector Bool 18) : List Byte := v.toList.map fun b => if b then 1 else 0

theorem enableBytes_length (v : Vector Bool 18) : (enableBytes v).length = 18 := by
  rw [enableBytes, List.length_map, Vector.length_toList]

theorem enableOfArgs_bytes (v : Vector Bool 18) : enableOfArgs (enableBytes v) = some v := by
  have bytes : (enableBytes v).all (fun b => b == 0 || b == 1) = true := by
    rw [enableBytes, List.all_map, List.all_eq_true]
    rintro (_ | _) _ <;> rfl
  rw [enableOfArgs, if_pos bytes]
  refine congrArg some (Vector.ext fun k hk => ?_)
  rw [Vector.getElem_ofFn, List.getD_eq_getElem _ _ (by rw [enableBytes_length]; exact hk)]
  simp only [enableBytes, List.getElem_map, Vector.getElem_toList]
  cases v[k] <;> rfl

/-- Settles O23. -/
theorem setNoticeEnableSetsEveryFlag : Obligations.SetNoticeEnableSetsEveryFlag := by
  intro s tag hlink hload
  refine ⟨fun v => ?_, fun args hlen h => ?_⟩
  · refine exec_answered s (i := .setNoticeEnable tag (enableBytes v)) rfl hlink hload
      (by rw [enableBytes_length]; decide) { s with notices := { s.notices with enabled := v } } (congrArg Served.of ?_)
    change cmdSetNoticeEnable (enableBytes v) s.unlinked = _
    rw [cmdSetNoticeEnable, if_neg (not_not_intro (enableBytes_length v)), enableOfArgs_bytes]
    rfl
  · have unparsed : enableOfArgs args = none := by
      obtain ⟨b, hb, h0, h1⟩ := h
      refine if_neg fun all => ?_
      have byte : b = 0 ∨ b = 1 := by simpa using List.all_eq_true.mp all b hb
      exact byte.elim h0 h1
    refine exec_answered s (i := .setNoticeEnable tag args) rfl hlink hload (by omega) s (congrArg Served.of ?_)
    change cmdSetNoticeEnable args s.unlinked = _
    rw [cmdSetNoticeEnable, if_neg (not_not_intro hlen), unparsed]

end Sys2Proof.Machine
end

section
/-! PROOFS. SOFT_RESET (R203 to R208): its flags as rows of their own, and applied in their order. -/

namespace Sys2Proof.Machine

set_option Elab.async false

variable (s : State)

/-! ### What CLEAR_OVERLAY and RELOAD stop -/

/-- R45, R63: the notice unit once a commit has been cancelled and a fill between two lines stopped. -/
def stoppedNotices : NoticeUnit :=
  let n := if s.commit = .idle then s.notices else s.notices.post (timeBase s)
    { kind := .commitCancelled, device := none, address := none, entry := none, detail := 3 }
  match s.fill.job with
  | none => n
  | some j => if j.stage = .waiting then n.post (timeBase s)
      { kind := .fillFailed, device := some (devOfLine j.firstLine), address := some (j.firstLine + s.fill.progress),
        entry := j.target, detail := 2 } else n

/-- R63: the fill engine once it has been stopped, at once or at the end of its line. -/
def stoppedFill : Fill :=
  match s.fill.job with
  | none => s.fill
  | some j => { s.fill with job := if j.stage = .waiting then none else some { j with abort := some .cleared } }

/-- R45, R63: a commit is cancelled and a fill stopped, each doing nothing where there is none. -/
theorem stopFill_cancelCommit : stopFill .cleared (cancelCommitWith cancelSoftReset s)
    = { s with commit := .idle, fill := stoppedFill s, notices := stoppedNotices s } := by
  have cancelled : cancelCommitWith cancelSoftReset s
      = { s with
          commit := .idle
          notices := if s.commit = .idle then s.notices else s.notices.post (timeBase s)
            { kind := .commitCancelled, device := none, address := none, entry := none, detail := 3 } } := by
    rcases cancelCommitWith_cases s cancelSoftReset with ⟨hc, e⟩ | ⟨hc, e⟩
    · rw [e, if_pos hc, ← hc]
    · rw [e, if_neg hc]
      rfl
  rw [cancelled]
  rcases hj : s.fill.job with _ | j
  · simp only [stopFill, stoppedFill, stoppedNotices, hj]
  · by_cases hst : j.stage = .waiting
    · simp only [stopFill, stoppedFill, stoppedNotices, hj, hst, if_true]
      rfl
    · simp only [stopFill, stoppedFill, stoppedNotices, hj, hst, if_false]

/-- R204: what CLEAR_OVERLAY leaves. -/
theorem applyClearOverlay_eq : applyClearOverlay s = { s with
    commit := .idle
    fill := stoppedFill s
    staged := Vector.replicate 64 none
    active := Vector.replicate 64 none
    generation := s.generation + 1
    notices := (stoppedNotices s).post (timeBase s)
      { kind := .commitTaken, device := none, address := none, entry := none, detail := s.generation + 1 }
    ptr := { slot := 0, offset := 0 } } := by
  have fresh : (emptyBank.map fun e => e.map fun e => ({ entry := e, hitCount := 0 } : ActiveEntry))
      = Vector.replicate 64 none := by simp [emptyBank, Vector.map_replicate]
  simp only [applyClearOverlay, stopFill_cancelCommit]
  rw [← fresh]
  rfl

/-- R207: the state that RELOAD hands to the loader. -/
def reloading : State := { s with
  commit := .idle
  fill := stoppedFill s
  notices := stoppedNotices s
  staged := Vector.replicate 64 none
  host := { s.host with loadHold := true }
  loader := { s.loader with state := .waiting .reload s.clock } }

theorem applyReload_eq : applyReload s = loaderAttends (reloading s) := by
  simp only [applyReload, stopFill_cancelCommit]
  rfl

/-! ### The rows -/

/-- R193, R191: a flag's row does its work only where a SOFT_RESET could be processed. -/
theorem applyFlag_free (f : State → State) (hload : LoaderIdle s) (hp : s.link.processing = none) :
    applyFlag f s = f s := by
  simp [applyFlag, loaderRunning, hload, hp]

theorem applyFlag_refused (f : State → State) (h : s.loader.state ≠ .idle ∨ ∃ p, s.link.processing = some p) :
    applyFlag f s = s := by
  refine if_pos ?_
  rcases h with h | ⟨p, h⟩
  · simp [loaderRunning, h]
  · simp [h]

/-- R180: a reload that waits ends the boot sector's STATUS with an ARRAY write. -/
theorem loaderAttends_status {since sector : Nat} (hl : s.loader.state = .waiting .reload since)
    (hr : s.tracker.dev0.record = .status sector) : loaderAttends s =
      if sector = s.loader.bootSector ∧ ¬ writeStands s .dev0 then
        raiseService .dev0 (.arrayWrite false) (bootBase s) s
      else s := by
  simp only [loaderAttends, hl, hr]

theorem loaderAttends_refused {since sector : Nat} (hl : s.loader.state = .waiting .reload since)
    (hr : s.tracker.dev0.record = .refused sector) :
    loaderAttends s = if sector = s.loader.bootSector then setRecord .dev0 .array s else s := by
  simp only [loaderAttends, hl, hr]

theorem loaderAttends_suspended {since sector target : Nat} {p : Bool} {e : Option EraseFields}
    (hl : s.loader.state = .waiting .reload since) (hr : s.tracker.dev0.record = .suspended sector target .host p e) :
    loaderAttends s = if ¬ writeStands s .dev0 then raiseService .dev0 (.resume .loader) (sectorBase sector) s else s := by
  simp only [loaderAttends, hl, hr]

theorem writeStands_none (d : Dev) (hs : s.service.get d = none) (hb : s.bus = none) : writeStands s d = false := by
  simp [writeStands, hs, hb]

theorem writeStands_service {d : Dev} {q : ServiceReq} (hs : s.service.get d = some q) : writeStands s d = true := by
  simp [writeStands, hs]

/-- Settles O25. -/
theorem softResetRowsHaveTheirEffect : Obligations.SoftResetRowsHaveTheirEffect := by
  refine fun s => ⟨fun hload hp => ?_, fun h => ?_⟩
  · intro n0 n1 fill boot reloaded raised
    have reload : exec .reload s = .next (loaderAttends (reloading s)) :=
      congrArg _ ((applyFlag_free s _ hload hp).trans (applyReload_eq s))
    have waits : (reloading s).loader.state = .waiting .reload s.clock := rfl
    have same : reloading s = reloaded := rfl
    have passive : (match s.tracker.dev0.record with
        | .status sector => sector ≠ s.loader.bootSector ∨ ∃ q, s.service.dev0 = some q
        | .refused sector => sector ≠ s.loader.bootSector
        | .suspended _ _ .host _ _ => ∃ q, s.service.dev0 = some q
        | _ => True) → exec .reload s = .next reloaded := fun h => by
      rw [reload, loaderAttends_passive (reloading s) fun _ _ => h, same]
    refine ⟨congrArg _ ((applyFlag_free s _ hload hp).trans (applyClearOverlay_eq s)),
      congrArg _ (applyFlag_free s _ hload hp), congrArg _ (applyFlag_free s _ hload hp), ?_⟩
    cases hr : s.tracker.dev0.record with
    | status sector =>
      have attends := loaderAttends_status (reloading s) waits hr
      refine ⟨fun hne => ?_, fun hboot hs hb => ?_, fun q hs => ?_⟩
      · rw [reload, attends, if_neg fun h => hne h.1, same]
      · rw [reload, attends, if_pos ⟨hboot, by simp [writeStands_none (reloading s) .dev0 hs hb]⟩]
        rfl
      · rw [reload, attends, if_neg fun h => h.2 (writeStands_service (reloading s) (d := .dev0) hs), same]
    | refused sector =>
      rw [reload, loaderAttends_refused (reloading s) waits hr]
      exact congrArg _ rfl
    | suspended sector target o p e =>
      cases o with
      | host =>
        have attends := loaderAttends_suspended (reloading s) waits hr
        refine ⟨fun hs hb => ?_, fun q hs => ?_⟩
        · rw [reload, attends, if_pos (by simp [writeStands_none (reloading s) .dev0 hs hb])]
          rfl
        · rw [reload, attends, if_neg (not_not_intro (writeStands_service (reloading s) (d := .dev0) hs)), same]
      | part => exact passive (by rw [hr]; trivial)
    | _ => exact passive (by rw [hr]; trivial)
  · exact ⟨congrArg _ (applyFlag_refused s _ h), congrArg _ (applyFlag_refused s _ h), congrArg _ (applyFlag_refused s _ h),
      congrArg _ (applyFlag_refused s _ h)⟩

/-! ### The flags of one SOFT_RESET -/

theorem applyClearOverlay_unlinked : applyClearOverlay s.unlinked = (applyClearOverlay s).unlinked := by
  simp only [applyClearOverlay_eq]
  rfl

/-- A step that does not read the link, or nothing. -/
theorem link_ite {c : Prop} [Decidable c] {f : State → State} {l : Link}
    (h : f { s with link := l } = { f s with link := l }) :
    (if c then f { s with link := l } else { s with link := l }) = { (if c then f s else s) with link := l } := by
  split
  · exact h
  · rfl

/-- R180: the loader does not look at the link. -/
theorem loaderAttends_link (l : Link) : loaderAttends { s with link := l } = { loaderAttends s with link := l } := by
  simp only [loaderAttends]
  split
  · split
    · exact link_ite s (f := raiseService .dev0 (.arrayWrite false) (bootBase s)) rfl
    · exact link_ite s (f := setRecord .dev0 .array) rfl
    · exact link_ite s (f := raiseService .dev0 (.resume .loader) (sectorBase _)) rfl
    · rfl
  · rfl

theorem loaderAttends_unlinked : loaderAttends s.unlinked = (loaderAttends s).unlinked := loaderAttends_link s _

/-- R203: a flag's step, or nothing. -/
theorem unlinked_ite {c : Prop} [Decidable c] {f : State → State} (h : f s.unlinked = (f s).unlinked) :
    (if c then f s.unlinked else s.unlinked) = (if c then f s else s).unlinked := link_ite s h

theorem applyReload_unlinked : applyReload s.unlinked = (applyReload s).unlinked := by
  rw [applyReload_eq, applyReload_eq, ← loaderAttends_unlinked]
  rfl

theorem applyFlags_unlinked (flags : Nat) : applyFlags flags s.unlinked = (applyFlags flags s).unlinked := by
  simp only [applyFlags]
  rw [unlinked_ite s (applyClearOverlay_unlinked s), unlinked_ite _ (f := applyClearNotices) rfl,
    unlinked_ite _ (f := applyDefaultPolicies) rfl, unlinked_ite _ (applyReload_unlinked _)]

theorem byte_bit (b : Byte) (k : Nat) : b.getLsbD k = true ↔ b.toNat / 2 ^ k % 2 = 1 := by
  rw [BitVec.getLsbD, Nat.testBit_eq_decide_div_mod_eq, decide_eq_true_eq]

/-- R203: a flag that is given does what its row does, and one that is not changes nothing. -/
theorem flag_row {flags : Byte} {k : Nat} (f : State → State) (c : Instr) (hc : ∀ t, exec c t = .next (applyFlag f t))
    (hload : LoaderIdle s) (hp : s.link.processing = none) :
    if flags.getLsbD k then exec c s = .next (if flags.toNat / 2 ^ k % 2 = 1 then f s else s)
    else (if flags.toNat / 2 ^ k % 2 = 1 then f s else s) = s := by
  split
  · rename_i given
    rw [if_pos ((byte_bit flags k).mp given), hc, applyFlag_free s f hload hp]
  · rename_i absent
    exact if_neg (mt (byte_bit flags k).mpr absent)

/-- Settles O24: the rows of the flags are those of the request's own state, since none before RELOAD touches the loader or
the link. -/
theorem softResetAppliesItsFlagsInOrder : Obligations.SoftResetAppliesItsFlagsInOrder := by
  intro s tag flags hlink hload
  have argument : argField [flags] 0 1 = flags.toNat := argField_first flags []
  refine ⟨fun hf => ?_, fun hf => ?_⟩
  · let s1 := if flags.toNat / 2 ^ 0 % 2 = 1 then applyClearOverlay s else s
    let s2 := if flags.toNat / 2 ^ 1 % 2 = 1 then applyClearNotices s1 else s1
    let s3 := if flags.toNat / 2 ^ 2 % 2 = 1 then applyDefaultPolicies s2 else s2
    let s4 := if flags.toNat / 2 ^ 3 % 2 = 1 then applyReload s3 else s3
    have free : ∀ t, (LoaderIdle t ∧ t.link.processing = none) → ∀ (p : Prop) [Decidable p] (u : State),
        u.loader = t.loader → u.link = t.link →
        LoaderIdle (if p then u else t) ∧ (if p then u else t).link.processing = none := by
      intro t ht p _ u h1 h2
      split
      · rw [LoaderIdle, h1, h2]
        exact ht
      · exact ht
    have free1 := free s ⟨hload, hlink.2.2⟩ (flags.toNat / 2 ^ 0 % 2 = 1) (applyClearOverlay s)
      (by rw [applyClearOverlay_eq]) (by rw [applyClearOverlay_eq])
    have free2 := free s1 free1 (flags.toNat / 2 ^ 1 % 2 = 1) (applyClearNotices s1) rfl rfl
    have free3 := free s2 free2 (flags.toNat / 2 ^ 2 % 2 = 1) (applyDefaultPolicies s2) rfl rfl
    have all : applyFlags flags.toNat s = s4 := by
      simp only [applyFlags, s4, s3, s2, s1, Nat.reducePow, Nat.div_one]
    refine ⟨s1, s2, s3, s4, flag_row s applyClearOverlay .clearOverlay (fun _ => rfl) hload hlink.2.2,
      flag_row s1 applyClearNotices .clearNotices (fun _ => rfl) free1.1 free1.2,
      flag_row s2 applyDefaultPolicies .defaultPolicies (fun _ => rfl) free2.1 free2.2,
      flag_row s3 applyReload .reload (fun _ => rfl) free3.1 free3.2, ?_⟩
    refine exec_answered s (i := .softReset tag [flags]) rfl hlink hload (by simp) s4 (congrArg Served.of ?_)
    change cmdSoftReset [flags] s.unlinked = _
    rw [cmdSoftReset, argument, if_neg (by simp), if_neg (Nat.not_lt.mpr hf), applyFlags_unlinked, all]
  · refine exec_answered s (i := .softReset tag [flags]) rfl hlink hload (by simp) s (congrArg Served.of ?_)
    change cmdSoftReset [flags] s.unlinked = _
    rw [cmdSoftReset, argument, if_neg (by simp), if_pos hf]

end Sys2Proof.Machine
end

section
/-! PROOFS. The receiver and the slot (R185 to R198): frames answered without a command, byte times, and what follows the
last word of a store request. -/

namespace Sys2Proof.Machine

set_option Elab.async false

variable (s : State)

/-! ### Frames answered without a command -/

/-- R192: a code that Formats assigns to nothing. -/
theorem serve_unknown (f : Frame) (hf : f.checkOk = true) (hk : knownCodes.contains f.code = false) :
    serve f s = .reply (.badCommand, []) s := by
  simp only [serve]
  rw [if_neg (not_not_intro hf), if_pos (by simpa using hk)]

/-- Settles O26. -/
theorem badFramesAndCommandsAreAnswered : Obligations.BadFramesAndCommandsAreAnswered := by
  intro s tag code args hlink
  refine ⟨fun hw => ?_, congrArg _ (damagedFrame_free s tag hlink), congrArg _ (overlongFrame_free s tag hlink)⟩
  obtain ⟨hfit, unknown⟩ := Bool.and_eq_true_iff.mp hw
  have served := serve_unknown s.unlinked (goodFrame code tag args) rfl
    (show knownCodes.contains code = false by simpa using unknown)
  rw [exec_request s (i := .badCommand code tag args) rfl,
    request_free s code tag args hlink (of_decide_eq_true hfit), beginProcessing_reply _ _ _ _ served]
  exact congrArg _ (placeResponse_unlinked s tag .badCommand [])

/-! ### Byte times -/

theorem byteTime_hunt_waiting {f : Frame} (hr : s.link.receiver = .hunt) (hw : s.link.waiting = some f) :
    byteTime 0xA6 s = { s with link := { s.link with
      receiver := .discarding, slot := clockOut s.link.slot
      processing := s.link.processing.map fun p => { p with superseded := true } } } := by
  simp only [byteTime, receiveByte, sendByte_receiver, hr, if_true, startByte, sendByte_waiting, hw, Option.isSome_some]
  rfl

theorem byteTime_discarding (x : Byte) (hr : s.link.receiver = .discarding) : byteTime x s = sendByte s := by
  simp only [byteTime, receiveByte, sendByte_receiver, hr]

theorem startByte_free (hw : s.link.waiting = none) : startByte s = { s with link := { s.link with
    receiver := .receiving, frameBuffer := some [], slot := none, pendingResponse := none
    processing := s.link.processing.map fun p => { p with superseded := true } } } := by
  simp only [startByte, hw]
  rfl

theorem deselect_hunt (hr : s.link.receiver ≠ .init) : deselect s = { s with link := { s.link with
    receiver := .hunt, frameBuffer := none, slot := s.link.slot.map fun r => { r with position := 0 } } } := by
  simp only [deselect]
  split
  · rfl
  · rfl
  · rename_i h1 h2
    have hunting : s.link.receiver = .hunt := by
      rcases hx : s.link.receiver with _ | _ | _ | _
      · exact absurd hx hr
      · rfl
      · exact absurd hx h1
      · exact absurd hx h2
    rw [hunting]

theorem ldo_slot {x : ResponseSlot} (h : s.link.slot = some x) : ldo s = x.response.bytes.getD x.position 0 := by
  simp only [ldo, h]

/-! ### A whole frame while a request is in processing -/

/-- R189: the link while a superseded request is in processing and a frame waits, or a response is pending. -/
def State.holding (p : Processing) (receiver : Receiver) (f : Option Frame) (q : Option Response) (s : State) : State :=
  { s with link := { receiver := receiver, frameBuffer := none, waiting := f,
                     processing := some { p with superseded := true }, slot := none, pendingResponse := q } }

section

variable {s} {p : Processing} (hr : s.link.receiver = .hunt) (hw : s.link.waiting = none)
  (hp : s.link.processing = some p)
include hr hw hp

theorem frameComplete_holding (n : Nat) (f : Frame) :
    receiveWhole n (frameComplete f) s = s.holding p .hunt (some f) none := by
  simp only [receiveWhole, hr, hw, startByte_free s hw, frameComplete, hp]
  rfl

theorem frameTooLong_holding (tag : Byte) (n : Nat) : receiveWhole n (frameTooLong tag) s
    = s.holding p .discarding none (some { tag := tag, status := .badFrame, payload := [] }) := by
  simp only [receiveWhole, hr, hw, startByte_free s hw, frameTooLong, hp]
  rfl

end

/-! ### After the last word of a store request -/

section

variable {args : List Byte}

theorem cmdStageEntry_loader : (cmdStageEntry args s).2.loader = s.loader := by
  simp only [cmdStageEntry]
  split
  · rfl
  · split
    · rfl
    · split <;> rfl

theorem cmdClearStaged_loader : (cmdClearStaged args s).2.loader = s.loader := by
  simp only [cmdClearStaged]
  split
  · rfl
  · split
    · rfl
    · split
      · rfl
      · split <;> rfl

theorem cmdCopyActive_loader : (cmdCopyActive args s).2.loader = s.loader := by
  simp only [cmdCopyActive]
  split
  · rfl
  · split <;> rfl

theorem startCommit_loader (f : InFlight) : (startCommit f s).loader = s.loader := by
  rcases startCommit_cases s f with ⟨r, -, e⟩ | ⟨-, e⟩ <;> rw [e]
  · rfl
  · rcases verifyFrom_cases s f 0 with ⟨q, -, e⟩ | ⟨-, e⟩ <;> rw [e]
    rcases verificationEnds_cases s f with ⟨-, -, e⟩ | ⟨-, -, e⟩ | ⟨mark, expiry, -, e⟩ <;> rw [e]
    rfl

theorem cmdCommit_loader : (cmdCommit args s).2.loader = s.loader := by
  simp only [cmdCommit]
  split
  · rfl
  · split
    · rfl
    · split
      · rfl
      · split
        · rfl
        · exact startCommit_loader s _

theorem cmdCancelCommit_loader : (cmdCancelCommit args s).2.loader = s.loader := by
  simp only [cmdCancelCommit]
  split
  · rfl
  · split
    · rfl
    · rcases cancelCommitWith_cases s cancelRequest with ⟨-, e⟩ | ⟨-, e⟩ <;> rw [e]
      rfl

theorem cmdSetStorePointer_loader : (cmdSetStorePointer args s).2.loader = s.loader := by
  simp only [cmdSetStorePointer]
  split
  · rfl
  · split <;> rfl

theorem cmdFill_loader : (cmdFill args s).2.loader = s.loader := by
  unfold cmdFill
  iterate 2
    split
    · rfl
  extract_lets
  iterate 7
    split
    · rfl
  rfl

theorem stopFill_loader (cause : AbortCause) : (stopFill cause s).loader = s.loader := by
  simp only [stopFill]
  split
  · rfl
  · split <;> rfl

theorem cmdAbortFill_loader : (cmdAbortFill args s).2.loader = s.loader := by
  simp only [cmdAbortFill]
  split
  · rfl
  · split
    · rfl
    · split
      · rfl
      · exact stopFill_loader s _

theorem cmdSetLock_loader : (cmdSetLock args s).2.loader = s.loader := by
  simp only [cmdSetLock]
  split
  · rfl
  · split
    · rfl
    · split <;> rfl

theorem cmdSetPolicy_loader : (cmdSetPolicy args s).2.loader = s.loader := by
  simp only [cmdSetPolicy]
  split
  · rfl
  · split <;> rfl

theorem cmdPopNotices_loader : (cmdPopNotices args s).2.loader = s.loader := by
  simp only [cmdPopNotices]
  split
  · rfl
  · split <;> rfl

theorem cmdClearTallies_loader : (cmdClearTallies args s).2.loader = s.loader := by
  simp only [cmdClearTallies]
  split <;> rfl

theorem cmdSetNoticeEnable_loader : (cmdSetNoticeEnable args s).2.loader = s.loader := by
  simp only [cmdSetNoticeEnable]
  split
  · rfl
  · split <;> rfl

end

/-- R180: what the loader has attended to it does not attend to again. -/
theorem loaderAttends_twice : loaderAttends (loaderAttends s) = loaderAttends s := by
  by_cases same : loaderAttends s = s
  · rw [same, same]
  by_cases waits : ∃ since, s.loader.state = .waiting .reload since
  swap
  · exact absurd (loaderAttends_quiet s (.inl fun since h => waits ⟨since, h⟩)) same
  obtain ⟨since, waits⟩ := waits
  have idle_after : ∀ t : State, t.loader = s.loader → (∃ q, t.service.dev0 = some q) ∧ (∃ x, t.tracker.dev0.record = .status x
      ∨ ∃ y p e, t.tracker.dev0.record = .suspended x y .host p e) ∨ t.tracker.dev0.record = .array →
      loaderAttends t = t := by
    rintro t hl (⟨⟨q, hq⟩, x, hr | ⟨y, p, e, hr⟩⟩ | hr)
    · refine loaderAttends_passive t fun _ _ => ?_
      rw [hr]
      exact .inr ⟨q, hq⟩
    · refine loaderAttends_passive t fun _ _ => ?_
      rw [hr]
      exact ⟨q, hq⟩
    · exact loaderAttends_quiet t (.inr hr)
  cases hr : s.tracker.dev0.record with
  | status sector =>
    rw [loaderAttends_status s waits hr] at same ⊢
    split at same
    · rw [if_pos ‹_›]
      exact idle_after _ rfl (.inl ⟨⟨_, rfl⟩, sector, .inl hr⟩)
    · exact absurd rfl same
  | refused sector =>
    rw [loaderAttends_refused s waits hr] at same ⊢
    split at same
    · rw [if_pos ‹_›]
      exact idle_after _ rfl (.inr rfl)
    · exact absurd rfl same
  | suspended sector target o p e =>
    cases o with
    | host =>
      rw [loaderAttends_suspended s waits hr] at same ⊢
      split at same
      · rw [if_pos ‹_›]
        exact idle_after _ rfl (.inl ⟨⟨_, rfl⟩, sector, .inr ⟨target, p, e, hr⟩⟩)
      · exact absurd rfl same
    | part => exact absurd (loaderAttends_passive s fun _ _ => by rw [hr]; trivial) same
  | _ => exact absurd (loaderAttends_passive s fun _ _ => by rw [hr]; trivial) same

/-- What the first step of a request's processing leaves is not attended to by the loader any more: the loader is idle, or a
reload has been attended to. -/
def Served.Attended : Served → Prop
  | .reply _ t => loaderAttends t = t
  | .working _ t => loaderAttends t = t

section

variable {s} (h : LoaderIdle s)
include h

theorem attended_of_loader {r : Reply × State} (hr : r.2.loader = s.loader) : (Served.of r).Attended :=
  loaderAttends_idle r.2 (by rw [LoaderIdle, hr]; exact h)

theorem attended_of_same {r : Reply × State} (hr : r.2 = s) : (Served.of r).Attended :=
  attended_of_loader h (congrArg State.loader hr)

theorem cmdWriteStore_attended (args : List Byte) : (cmdWriteStore args s).Attended := by
  have same := loaderAttends_idle s h
  simp only [cmdWriteStore]
  split
  · exact same
  · split
    · exact same
    · split <;> exact same

theorem cmdReadStore_attended (args : List Byte) : (cmdReadStore args s).Attended := by
  have same := loaderAttends_idle s h
  simp only [cmdReadStore]
  split
  · exact same
  · split
    · exact same
    · split <;> exact same

omit h in
theorem attended_ite {c : Prop} [Decidable c] {a b : Served} (ha : a.Attended) (hb : b.Attended) :
    (if c then a else b).Attended := by
  split
  · exact ha
  · exact hb

theorem cmdSoftReset_attended (args : List Byte) : (Served.of (cmdSoftReset args s)).Attended := by
  show loaderAttends (cmdSoftReset args s).2 = _
  have same := loaderAttends_idle s h
  simp only [cmdSoftReset]
  split
  · exact same
  split
  · exact same
  simp only [applyFlags]
  have kept : ∀ (p : Prop) [Decidable p] (t u : State), LoaderIdle t → u.loader = t.loader → LoaderIdle (if p then u else t) := by
    intro p _ t u ht hu
    split
    · rw [LoaderIdle, hu]
      exact ht
    · exact ht
  split
  · rw [applyReload_eq, loaderAttends_twice]
  · exact loaderAttends_idle _ (kept _ _ _ (kept _ _ _ (kept _ _ _ h (by rw [applyClearOverlay_eq])) rfl) rfl)

theorem runCommand_attended (f : Frame) : (runCommand f s).Attended := by
  unfold runCommand
  refine attended_ite (attended_of_same h (cmdGetIdentity_same s _)) ?_
  refine attended_ite (attended_of_same h (cmdGetStatus_same s _)) ?_
  refine attended_ite (cmdSoftReset_attended h _) ?_
  refine attended_ite (attended_of_same h (cmdReadEntry_same s _)) ?_
  refine attended_ite (attended_of_loader h (cmdStageEntry_loader s)) ?_
  refine attended_ite (attended_of_loader h (cmdClearStaged_loader s)) ?_
  refine attended_ite (attended_of_loader h (cmdCopyActive_loader s)) ?_
  refine attended_ite (attended_of_loader h (cmdCommit_loader s)) ?_
  refine attended_ite (attended_of_loader h (cmdCancelCommit_loader s)) ?_
  refine attended_ite (attended_of_loader h (cmdSetStorePointer_loader s)) ?_
  refine attended_ite (cmdWriteStore_attended h _) ?_
  refine attended_ite (cmdReadStore_attended h _) ?_
  refine attended_ite (attended_of_loader h (cmdFill_loader s)) ?_
  refine attended_ite (attended_of_loader h (cmdAbortFill_loader s)) ?_
  refine attended_ite (attended_of_same h (cmdReadTracker_same s _)) ?_
  refine attended_ite (attended_of_loader h (cmdSetLock_loader s)) ?_
  refine attended_ite (attended_of_same h (cmdReadLocks_same s _)) ?_
  refine attended_ite (attended_of_loader h (cmdSetPolicy_loader s)) ?_
  refine attended_ite (attended_of_same h (cmdReadPolicy_same s _)) ?_
  refine attended_ite (attended_of_loader h (cmdPopNotices_loader s)) ?_
  refine attended_ite (attended_of_same h (cmdReadTallies_same s _)) ?_
  refine attended_ite (attended_of_loader h (cmdClearTallies_loader s)) ?_
  refine attended_ite (attended_of_loader h (cmdSetNoticeEnable_loader s)) ?_
  exact loaderAttends_idle s h

end

theorem attended_link (l : Link) (h : loaderAttends s = s) :
    loaderAttends { s with link := l } = { s with link := l } := by
  rw [loaderAttends_link, h]

/-- R191: a request processed with an idle loader leaves nothing for the loader to attend to. -/
theorem beginProcessing_attended (f : Frame) (hload : LoaderIdle s) :
    loaderAttends (beginProcessing f s) = beginProcessing f s := by
  have served : (serve f s).Attended := by
    have same := loaderAttends_idle s hload
    simp only [serve]
    exact attended_ite same (attended_ite same (attended_ite same (runCommand_attended hload f)))
  simp only [beginProcessing]
  split
  · rename_i e
    rw [e] at served
    exact attended_link _ _ served
  · rename_i e
    rw [e] at served
    exact attended_link _ _ served

/-- R188, R189: a request in processing ends while nothing waits and no response is pending. -/
theorem endProcessing_alone (p : Processing) (r : Reply) (hw : s.link.waiting = none) (hq : s.link.pendingResponse = none) :
    endProcessing p r s = if p.superseded then { s with link := { s.link with processing := none } }
      else { s with link := { s.link with
        processing := none
        slot := some { response := { tag := p.frame.tag, status := r.1, payload := r.2 }, position := 0 } } } := by
  unfold endProcessing
  cases p.superseded <;> simp [placeResponse, hw, hq]

theorem endProcessing_pending (p : Processing) (r : Reply) {q : Response} (hw : s.link.waiting = none)
    (hq : s.link.pendingResponse = some q) : endProcessing p r s = { s with link := { s.link with
      processing := none, slot := some { response := q, position := 0 }, pendingResponse := none } } := by
  unfold endProcessing
  cases p.superseded <;> simp [placeResponse, hw, hq]

theorem endProcessing_waiting (p : Processing) (r : Reply) {f : Frame} (hw : s.link.waiting = some f)
    (hq : s.link.pendingResponse = none) (hp : p.superseded = true) : endProcessing p r s
      = beginProcessing f { s with link := { s.link with processing := none, waiting := none } } := by
  unfold endProcessing
  simp [hp, hw, hq]

/-- R53, R54: a WRITE_STORE's last word is written, and the pointer advances. -/
theorem managementAccess_last_write (p : Processing) (w : Word) (count : Nat) (hwork : p.work = .write [w] count)
    (hport : portRefusal s s.ptr.slot = none) : managementAccess p s
      = endProcessing p (.ok, be16 (count + 1) ++ be16 s.ptr.next.slot ++ be8 s.ptr.next.offset)
          { s with store := s.store.write (s.ptr.slot * 16 + s.ptr.offset) w, ptr := s.ptr.next } := by
  simp only [managementAccess, hwork, storeWork, hport, if_true]
  rfl

theorem portAccess_management {p : Processing} (h : portChoice s = some (.management p)) :
    portAccess s = managementAccess p s := by
  simp only [portAccess, h]
  rfl

/-- Settles O27. -/
theorem linkRowsMoveTheLink : Obligations.LinkRowsMoveTheLink := by
  intro s tag
  refine ⟨fun hr hw => ?_, fun f hr hw => ?_, fun x hr hx => ?_, fun hr => ?_, fun x k hx hk => ?_, ?_,
    fun p hr hw hp => ⟨fun i code args hi hreq => ?_, ?_, ?_⟩, ?_⟩
  · exact congrArg _ ((byteTime_start s hr hw).trans (startByte_free s hw))
  · exact congrArg _ (byteTime_hunt_waiting s hr hw)
  · refine congrArg _ ((byteTime_discarding s _ hr).trans ?_)
    rw [sendByte, hx]
    rfl
  · exact congrArg _ (deselect_hunt s hr)
  · exact ldo_slot _ (sendBytes_position s k x hx hk)
  · exact congrArg _ (sendResponse_empties s)
  · rw [exec_request s hreq, request_eq s code tag args (request_argsFit hi hreq), frameComplete_holding hr hw hp]
    rfl
  · refine congrArg _ ((damagedFrame_eq s tag).trans ?_)
    rw [frameComplete_holding hr hw hp]
    rfl
  · refine congrArg _ ((overlongFrame_eq s tag).trans ?_)
    rw [frameTooLong_holding hr hw hp]
    rfl
  · intro p w count hload hport hwork hlive hprot ended response
    have allowed : portRefusal s s.ptr.slot = none := by simp [portRefusal, hlive, hprot]
    let written : State := { s with store := s.store.write (s.ptr.slot * 16 + s.ptr.offset) w, ptr := s.ptr.next }
    have access : exec .storePortAccess s = .next (loaderAttends (endProcessing p
        (.ok, be16 (count + 1) ++ be16 s.ptr.next.slot ++ be8 s.ptr.next.offset) written)) :=
      congrArg attended
        ((portAccess_management s hport).trans (managementAccess_last_write s p w count hwork allowed))
    refine ⟨fun hw hq => ?_, fun q hw hq => ?_, fun i code tag args hi hreq hw hsup hr hb hs hq => ?_⟩
    · rw [access, endProcessing_alone written p _ hw hq]
      cases p.superseded with
      | true => exact congrArg _ (loaderAttends_idle _ hload)
      | false => exact congrArg _ (loaderAttends_idle _ hload)
    · rw [access, endProcessing_pending written p _ hw hq]
      exact congrArg _ (loaderAttends_idle _ hload)
    · have unlinked : (ended { s.link with waiting := none }).unlinked = ended { s.link with waiting := none } := by
        simp only [State.unlinked, ended, hr, hb, hs, hq]
      rw [access, endProcessing_waiting written p _ hw hq hsup, exec_request _ hreq,
        request_free (ended { s.link with waiting := none }) code tag args ⟨hr, rfl, rfl⟩ (request_argsFit hi hreq), unlinked]
      exact congrArg _ (beginProcessing_attended _ _ hload)

end Sys2Proof.Machine
end

section
/-! PROOFS. The host face and the taking of a burst (R7 to R12, R110 to R115, R130 to R143), and power-on reset. -/

namespace Sys2Proof.Machine

set_option Elab.async false

/-! ### Power-on -/

/-- Settles O30: with both lines low POWER_ON_RESET is `State.powerOn`; a line that is high takes its device out of PROBE. -/
theorem powerOnResetStartsThePart : Obligations.PowerOnResetStartsThePart := by
  refine fun s two bootsel hrst ready0 ready1 => ⟨rfl, ?_⟩
  cases two
  · cases ready0
    · cases ready1 <;> exact ⟨_, rfl, rfl, rfl, rfl, rfl⟩
    · cases ready1 <;> exact ⟨_, rfl, rfl, rfl, rfl, rfl⟩
  · cases ready0
    · cases ready1 <;> exact ⟨_, rfl, rfl, rfl, rfl, rfl⟩
    · cases ready1 <;> exact ⟨_, rfl, rfl, rfl, rfl, rfl⟩

variable (s : State)

/-! ### The presentation of a transaction -/

theorem exec_hostWrite_quiet (addr : BitVec 25) (word : Word) {t : State} (h : presentWrite addr.toNat word s = t)
    (hq : LoaderQuiet t ∨ t.tracker.dev0.record = .array) : exec (.hostWrite addr word) s = .next t := by
  show attended (presentWrite addr.toNat word s) = _
  rw [h, attended, loaderAttends_quiet t hq]

/-- Settles O32. -/
theorem hostFaceIgnoresAndHolds : Obligations.HostFaceIgnoresAndHolds := by
  refine fun s addr len word => ⟨rfl, fun ha => ⟨?_, fun hq => ?_⟩, fun ha ht hl => ⟨?_, fun hq => ?_⟩⟩
  · exact congrArg _ (if_pos ha)
  · exact exec_hostWrite_quiet s addr word (if_pos ha) hq
  · show Host.Outcome.next (presentRead addr.toNat (burstWords len) s) = _
    rw [presentRead, if_neg (by simp [ha]), if_neg (by simp [ht]), if_pos hl]
    rfl
  · refine exec_hostWrite_quiet s addr word ?_ (t := { s with
      host := { s.host with transaction := .heldWrite addr.toNat word } }) hq
    rw [presentWrite, if_neg (by simp [ha]), if_neg (by simp [ht]), if_pos hl]
    rfl

/-! ### The taking of a burst -/

/-- R133: the read record of a burst of `n` words that begins at `base`. -/
def burstRecord (base n : Nat) (cls : Classification) (stage : ReadStage) : ReadRecord :=
  { addr := base, count := n, line := lineOf base, generation := s.generation, cls := cls, stage := stage }

/-- R133: the state while a burst is present, no word answered yet. -/
def State.bursting (r : ReadRecord) (s : State) : State :=
  { s with host := { s.host with transaction := .read r, dataOut := [] } }

/-- R8: a burst of the command sector is a bypass. -/
theorem classify_bypass {addr : Nat} (h : (s.tracker.get (devOf addr)).record.commandSector = some (sectorOf addr)) :
    classify s addr = .bypass := if_pos h

theorem classify_hit {addr p : Nat} {e : Entry}
    (h : (s.tracker.get (devOf addr)).record.commandSector ≠ some (sectorOf addr))
    (hl : lookup s.active (lineOf addr) = some (p, e)) : classify s addr = .hit p e.mode (lineOf addr - e.firstLine) := by
  rw [classify, if_neg h, hl]

theorem classify_miss {addr : Nat} (h : (s.tracker.get (devOf addr)).record.commandSector ≠ some (sectorOf addr))
    (hl : lookup s.active (lineOf addr) = none) : classify s addr = .miss := by
  rw [classify, if_neg h, hl]

/-- R130, R133: a free host face takes a burst as it arrives. -/
theorem exec_hostRead_ready (addr : BitVec 25) (len : BurstLength) (h : HostReady s) :
    exec (.hostRead addr len) s = .next (takeRead addr.toNat (burstWords len) s) := by
  obtain ⟨h1, h2, h3⟩ := h
  show Host.Outcome.next (presentRead addr.toNat (burstWords len) s) = _
  rw [presentRead, if_neg (by simp [h3]), if_neg (by simp [h1]), if_neg (by simp [h2])]

section

variable {s} {addr n base : Nat} (hb : addr - addr % n = base)
include hb

theorem takeRead_absent (hi : installed s (devOf base) = false) : takeRead addr n s
    = completeRead (burstRecord s base n .miss .forwarded) (List.replicate n s.policy.dev0.faultWord)
        (s.bursting (burstRecord s base n (classify s base) .forwarded)) := by
  subst hb
  have absent : ¬ installed s (devOf (addr - addr % n)) = true := by simp [hi]
  exact if_pos absent

variable (hi : installed s (devOf base) = true)
include hi

theorem takeRead_refused (hc : classify s base = .bypass) {x : Nat} (hr : (s.tracker.get (devOf base)).record = .refused x) :
    takeRead addr n s = completeRead (burstRecord s base n .bypass .forwarded) (List.replicate n syntheticStatus)
      (s.bursting (burstRecord s base n .bypass .forwarded)) := by
  subst hb
  unfold takeRead
  simp only [hc, hr]
  exact if_neg (not_not_intro hi)

theorem takeRead_bypass (hc : classify s base = .bypass) (hr : ∀ x, (s.tracker.get (devOf base)).record ≠ .refused x) :
    takeRead addr n s = forwardRead (burstRecord s base n .bypass .forwarded)
      (s.bursting (burstRecord s base n .bypass .forwarded)) := by
  subst hb
  unfold takeRead
  simp only [hc]
  exact if_neg (not_not_intro hi)

theorem takeRead_replace {p k slot : Nat} {follow : Bool} {check : Option Word}
    (hc : classify s base = .hit p (.replace slot follow check) k) : takeRead addr n s
      = s.bursting (burstRecord s base n (.hit p (.replace slot follow check) k) .store) := by
  subst hb
  unfold takeRead
  simp only [hc]
  exact if_neg (not_not_intro hi)

theorem takeRead_blank {p k : Nat} {w : Word} (hc : classify s base = .hit p (.blank w) k) : takeRead addr n s
    = completeRead (burstRecord s base n (.hit p (.blank w) k) .forwarded) (List.replicate n w)
        (s.bursting (burstRecord s base n (.hit p (.blank w) k) .forwarded)) := by
  subst hb
  unfold takeRead
  simp only [hc]
  exact if_neg (not_not_intro hi)

theorem takeRead_trap {p k : Nat} (hc : classify s base = .hit p .trap k) : takeRead addr n s
    = missDecision s.clock (burstRecord s base n (.hit p .trap k) .forwarded)
        (post { kind := .trapHit, device := some (devOf base), address := some (lineOf base), entry := some p, detail := 0 }
          (s.bursting (burstRecord s base n (.hit p .trap k) .forwarded))) := by
  subst hb
  unfold takeRead
  simp only [hc]
  exact if_neg (not_not_intro hi)

theorem takeRead_miss (hc : classify s base = .miss) : takeRead addr n s
    = missDecision s.clock (burstRecord s base n .miss .forwarded)
        (s.bursting (burstRecord s base n .miss .forwarded)) := by
  subst hb
  unfold takeRead
  simp only [hc]
  exact if_neg (not_not_intro hi)

end

/-! ### Bursts answered at once -/

/-- R135: the state once a burst has been answered whole, before the hit is counted. -/
def State.answeredBurst (words : List Word) (s : State) : State :=
  { s with host := { s.host with transaction := .none, dataOut := words } }

/-- R135: a burst that is no hit completes. -/
theorem completeRead_other (r : ReadRecord) (words : List Word) (h : ∀ p m k, r.cls ≠ .hit p m k) :
    completeRead r words s = reportCompletion r.line (s.answeredBurst words) :=
  congrArg (reportCompletion r.line) (countHit_other _ r h)

/-- R14, R135: a hit of the generation in force completes and counts on its entry. -/
theorem completeRead_hit (r : ReadRecord) (words : List Word) {p k : Nat} {m : EntryMode} {a : ActiveEntry}
    (h : r.cls = .hit p m k) (hg : r.generation = s.generation) (ha : activeAt s.active p = some a) :
    completeRead r words s = reportCompletion r.line ((s.answeredBurst words).counted p a) :=
  congrArg (reportCompletion r.line) ((countHit_hit (s.answeredBurst words) r p k m a h ha).trans (if_pos hg))

/-- Settles O33. -/
theorem burstsAnsweredAtOnce : Obligations.BurstsAnsweredAtOnce := by
  intro s addr len hready base d answered
  rw [exec_hostRead_ready s addr len hready]
  have hb : addr.toNat - addr.toNat % burstWords len = base := rfl
  refine ⟨fun p e w a hi hout hl hm ha => ?_, fun hi hr => ?_, fun htwo hbase => ?_⟩
  · have hc := classify_hit s hout hl
    rw [hm] at hc
    rw [takeRead_blank hb hi hc, completeRead_hit (s.bursting _) _ _ (p := p) (a := a) rfl rfl ha]
    exact reportCompletion_completes _ _
  · have hc := classify_bypass s (addr := base) (by
      rw [show (s.tracker.get (devOf base)).record = _ from hr]
      rfl)
    rw [takeRead_refused hb hi hc hr,
      completeRead_other (s.bursting _) (burstRecord s base _ .bypass .forwarded) _ (fun _ _ _ h => nomatch h)]
    exact reportCompletion_completes _ _
  · have far : devOf base = .dev1 := if_neg (Nat.not_lt.mpr hbase)
    have absent : installed s (devOf base) = false := by rw [far]; exact htwo
    rw [takeRead_absent hb absent,
      completeRead_other (s.bursting _) (burstRecord s base _ .miss .forwarded) _ (fun _ _ _ h => nomatch h)]
    exact reportCompletion_completes _ _

/-! ### Bursts taken for the port or the host path -/

/-- R110, R134: a bypass is raised on the host path, whatever the resume timers call for. -/
theorem forwardRead_bypass (r : ReadRecord) (h : r.cls = .bypass) : forwardRead r s
    = raiseHost (.read r.addr r.count true false) (setTransaction (.read { r with stage := .forwarded }) s) := by
  simp [forwardRead, h]

/-- Settles O34. -/
theorem burstsTakenForThePortOrTheHostPath : Obligations.BurstsTakenForThePortOrTheHostPath := by
  intro s addr len hready base d n taken outside hi
  rw [exec_hostRead_ready s addr len hready]
  have hb : addr.toNat - addr.toNat % burstWords len = base := rfl
  refine ⟨fun p e slot follow check hout hl hm => ?_, fun hcs hr => ?_, fun hstate hout hcall => ⟨fun hl => ?_, ?_⟩⟩
  · have hc := classify_hit s hout hl
    rw [hm] at hc ⊢
    rw [takeRead_replace hb hi hc]
    rfl
  · rw [takeRead_bypass hb hi (classify_bypass s hcs) hr, forwardRead_bypass _ _ rfl]
    rfl
  all_goals
    have forwards : (s.tracker.get (devOf base)).record.forwardsMisses = true := by
      revert hstate
      cases (s.tracker.get d).record <;> simp [Record.forwardsMisses]
  · rw [takeRead_miss hb hi (classify_miss s hout hl),
      missDecision_forwards (s.bursting _) s.clock (burstRecord s base _ .miss .forwarded) forwards,
      forwardRead_released (s.bursting _) (burstRecord s base _ .miss .forwarded) nofun hcall]
    rfl
  · intro p e hl hm
    have hc := classify_hit s hout hl
    rw [hm] at hc ⊢
    rw [takeRead_trap hb hi hc,
      missDecision_forwards (post _ (s.bursting _)) s.clock (burstRecord s base _ (.hit p .trap _) .forwarded) forwards,
      forwardRead_released (post _ (s.bursting _)) (burstRecord s base _ (.hit p .trap _) .forwarded) nofun hcall]
    rfl

end Sys2Proof.Machine
end

section
/-! PROOFS. The miss decision of a burst, state by state of its device (R110 to R115, R126, R149). -/

namespace Sys2Proof.Machine

set_option Elab.async false

variable (s : State) {since : Nat} {r : ReadRecord}

/-! ### The decision -/

theorem missDecision_probe (h : (s.tracker.get (devOf r.addr)).record = .probe) :
    missDecision since r s = fallToPolicy since r s := by
  simp only [missDecision, h]

/-- R149: while the command pair of a program or an erase waits, the burst is deferred. -/
theorem missDecision_deferred (h : (∃ sector target data, (s.tracker.get (devOf r.addr)).record = .busyProgram sector target data)
      ∨ ∃ sector target e, (s.tracker.get (devOf r.addr)).record = .busyErase sector target e)
    (hp : pairWaits s (devOf r.addr) = true) :
    missDecision since r s = setTransaction (.read { r with stage := .deferred }) s := by
  rcases h with ⟨sector, target, data, h⟩ | ⟨sector, target, e, h⟩ <;> simp only [missDecision, h, hp, if_true]

theorem missDecision_program {sector target : Nat} {data : Word}
    (h : (s.tracker.get (devOf r.addr)).record = .busyProgram sector target data)
    (hp : pairWaits s (devOf r.addr) = false) : missDecision since r s = fallToPolicy since r s := by
  simp only [missDecision, h, hp, Bool.false_eq_true, if_false]

theorem missDecision_erase {sector target : Nat} {e : Option EraseFields}
    (h : (s.tracker.get (devOf r.addr)).record = .busyErase sector target e)
    (hp : pairWaits s (devOf r.addr) = false) : missDecision since r s = decideErase since r sector e s := by
  simp only [missDecision, h, hp, Bool.false_eq_true, if_false]

theorem missDecision_suspending {sector target : Nat} {o : Owner} {p : Bool} {e : Option EraseFields}
    (h : (s.tracker.get (devOf r.addr)).record = .suspending sector target o p e) :
    missDecision since r s = stallRead since .suspending r s := by
  simp only [missDecision, h]

/-- R113: a suspension is available while auto_suspend is on, not disabled, and the budget not spent. -/
theorem suspensionAvailable_iff {d : Dev} {e : EraseFields} : suspensionAvailable s d e = true
    ↔ (s.policy.get d).autoSuspend = true ∧ e.disabled = false ∧ e.count < e.snapshot := by
  simp [suspensionAvailable, and_assoc]

theorem suspensionAvailable_none {d : Dev} {e : EraseFields} (h : e.count = e.snapshot
    ∨ (s.policy.get d).autoSuspend = false ∨ e.disabled = true) : suspensionAvailable s d e = false := by
  rw [Bool.eq_false_iff]
  intro g
  obtain ⟨ha, hd, hc⟩ := (suspensionAvailable_iff s).mp g
  rcases h with h | h | h
  · omega
  · exact Bool.false_ne_true (h.symm.trans ha)
  · exact Bool.false_ne_true (hd.symm.trans h)

theorem minRunElapsed_iff {d : Dev} {t : Nat} (h : (s.controller.get d).lastResume = some t) :
    minRunElapsed s d = true ↔ t + (s.policy.get d).minRun ≤ s.clock := by
  simp [minRunElapsed, h]

/-- R113: available and min_run elapsed, with nothing of the tracker in the way: the SUSPEND is raised. -/
theorem decideErase_suspends {sector t : Nat} {e : EraseFields} (ha : suspensionAvailable s (devOf r.addr) e = true)
    (hl : (s.controller.get (devOf r.addr)).lastResume = some t)
    (ht : t + (s.policy.get (devOf r.addr)).minRun ≤ s.clock) (hf : serviceFree s (devOf r.addr) = true) :
    decideErase since r sector (some e) s
      = raiseService (devOf r.addr) .suspend (sectorBase sector) (stallRead since .suspendRaised r s) := by
  simp only [decideErase, ha, if_true, (minRunElapsed_iff s hl).mpr ht, hf, and_self]

/-- R113: available and before min_run: the burst waits for its end. -/
theorem decideErase_waits {sector t : Nat} {e : EraseFields} (ha : suspensionAvailable s (devOf r.addr) e = true)
    (hl : (s.controller.get (devOf r.addr)).lastResume = some t)
    (ht : s.clock < t + (s.policy.get (devOf r.addr)).minRun) :
    decideErase since r sector (some e) s = stallRead since .minRun r s := by
  have before : ¬ minRunElapsed s (devOf r.addr) = true := fun h =>
    absurd ((minRunElapsed_iff s hl).mp h) (Nat.not_le.mpr ht)
  simp only [decideErase, ha, if_true]
  exact if_neg fun h => before h.1

theorem decideErase_falls {sector : Nat} {e : EraseFields} (ha : suspensionAvailable s (devOf r.addr) e = false) :
    decideErase since r sector (some e) s = fallToPolicy since r (reportBudget r e s) := by
  simp [decideErase, ha]

/-- R114: the first decision that finds the budget spent posts BUDGET_SPENT. -/
theorem reportBudget_first {e : EraseFields} (ha : (s.policy.get (devOf r.addr)).autoSuspend = true)
    (hd : e.disabled = false) (hc : e.count = e.snapshot)
    (hb : (s.controller.get (devOf r.addr)).budgetReported = false) : reportBudget r e s
      = modController (devOf r.addr) (fun k => { k with budgetReported := true })
          (post { kind := .budgetSpent, device := some (devOf r.addr), address := some r.line, entry := none,
                  detail := 0 } s) :=
  if_pos ⟨ha, by simp [hd], hc, by simp [hb]⟩

theorem reportBudget_again {e : EraseFields} (h : (s.policy.get (devOf r.addr)).autoSuspend = false ∨ e.disabled = true
    ∨ (s.controller.get (devOf r.addr)).budgetReported = true) : reportBudget r e s = s := by
  refine if_neg ?_
  rintro ⟨ha, hd, -, hb⟩
  rcases h with h | h | h
  · exact Bool.false_ne_true (h.symm.trans ha)
  · exact hd h
  · exact hb h

/-! ### The RESUME that a forwarded burst takes back -/

/-- R126: a RESUME of the timers that waits is taken back, and no other request. -/
theorem withdrawResume_eq (d : Dev) : withdrawResume d s = { s with service := match s.service.get d with
    | some q => if q.work = .resume .timers then s.service.set d none else s.service
    | none => s.service } := by
  simp only [withdrawResume]
  rcases h : s.service.get d with _ | ⟨work, addr, behind⟩
  · rfl
  · cases work with
    | resume cause => cases cause <;> rfl
    | _ => rfl

/-- R126: a burst forwarded while a resume is called for: the timers' RESUME is withdrawn and resume_idle starts again. -/
theorem forwardRead_yields (hb : r.cls ≠ .bypass) {c : ResumeCall}
    (hc : (s.controller.get (devOf r.addr)).call = some c) : forwardRead r s = { s.released r with
      controller := s.controller.set (devOf r.addr) { s.controller.get (devOf r.addr) with
        idleTimer := (s.controller.get (devOf r.addr)).idleTimer.map fun _ => s.clock
        call := if c = .holdMax then some .holdMax else none }
      service := match s.service.get (devOf r.addr) with
        | some q => if q.work = .resume .timers then s.service.set (devOf r.addr) none else s.service
        | none => s.service } := by
  simp only [forwardRead, hb, if_false, yieldResume, hc, withdrawResume_eq, modController, raiseHost, setTransaction,
    State.released]
  rfl

/-! ### The burst as it is decided -/

/-- R110: a burst at `base` that misses, or hits a TRAP entry, comes to the miss decision as `cls`, in a state in which
TRAP_HIT has been posted for the one that hits. -/
def Undecided (base : Nat) (cls : Classification) (s0 : State) : Prop :=
  (lookup s.active (lineOf base) = none ∧ cls = .miss ∧ s0 = s)
  ∨ ∃ p e, lookup s.active (lineOf base) = some (p, e) ∧ e.mode = .trap
    ∧ cls = .hit p .trap (lineOf base - e.firstLine)
    ∧ s0 = { s with
        notices := s.notices.post (timeBase s)
          { kind := .trapHit, device := some (devOf base), address := some (lineOf base), entry := some p, detail := 0 } }

theorem exec_hostRead_undecided {addr : BitVec 25} {len : BurstLength} {s0 : State} {cls : Classification} {base : Nat}
    (hbase : burstBase addr len = base) (hready : HostReady s) (hi : installed s (devOf base) = true)
    (hcase : Undecided s base cls s0) :
    cls ≠ .bypass ∧ ∃ ν, s0 = { s with notices := ν }
    ∧ ((s.tracker.get (devOf base)).record.commandSector ≠ some (sectorOf base) → exec (.hostRead addr len) s
      = .next (missDecision s.clock (burstRecord s base (burstWords len) cls .forwarded)
          (State.bursting (burstRecord s base (burstWords len) cls .forwarded) { s with notices := ν }))) := by
  rw [exec_hostRead_ready s addr len hready]
  rcases hcase with ⟨hl, rfl, rfl⟩ | ⟨p, e, hl, hm, rfl, rfl⟩
  · exact ⟨nofun, _, rfl, fun hout => by rw [takeRead_miss hbase hi (classify_miss _ hout hl)]⟩
  · refine ⟨nofun, _, rfl, fun hout => ?_⟩
    have hc := classify_hit s hout hl
    rw [hm] at hc
    rw [takeRead_trap hbase hi hc]
    rfl

/-- R112: a burst at `base` that falls to the miss policy as it arrives is stalled, or goes to the host path. -/
theorem burst_falls {base n : Nat} {cls : Classification} (hb : cls ≠ .bypass) (ν : NoticeUnit) (κ : PerDev Controller) :
    let u (stage : ReadStage) : State :=
      State.bursting (burstRecord s base n cls stage) { s with notices := ν, controller := κ }
    ((s.policy.get (devOf base)).missPolicy = .stall →
      fallToPolicy s.clock (burstRecord s base n cls .forwarded) (u .forwarded) = u (.stalled s.clock .policy))
    ∧ ((s.policy.get (devOf base)).missPolicy = .pass → (κ.get (devOf base)).call = none →
      fallToPolicy s.clock (burstRecord s base n cls .forwarded) (u .forwarded)
        = { u .forwarded with hostPath := s.hostPath ++ [.read base n false false] }) := by
  intro u
  refine ⟨fun hm => ?_, fun hm hc => ?_⟩
  all_goals
    have hp : ((u .forwarded).policy.get (devOf (burstRecord s base n cls .forwarded).addr)).missPolicy = _ := hm
  · simp only [fallToPolicy, hp]
    rfl
  · rw [fallToPolicy_released (u .forwarded) s.clock (burstRecord s base n cls .forwarded) hb hc]
    simp only [hp]
    rfl

/-- Settles O35: the taken burst comes to `missDecision`, whose equations say what each state of the device does. -/
theorem missDecisionOfABusyDevice : Obligations.MissDecisionOfABusyDevice := by
  intro s s0 addr len cls hready base d r taken forwarded falls missed trapped hi hcase
  obtain ⟨hb, ν, rfl, decided⟩ := exec_hostRead_undecided s (base := base) rfl hready hi hcase
  let now : ReadRecord := burstRecord s base (burstWords len) cls .forwarded
  let u : State := State.bursting now { s with notices := ν }
  have to_policy : exec (.hostRead addr len) s = .next (fallToPolicy s.clock now u) → falls { s with notices := ν } := by
    intro h
    obtain ⟨stall, pass⟩ := burst_falls s hb ν s.controller (base := base) (n := burstWords len)
    exact ⟨fun hm => h.trans (congrArg _ (stall hm)), fun hm hc => h.trans (congrArg _ (pass hm hc))⟩
  have outside : ∀ {sector}, (s.tracker.get d).record.commandSector = some sector → sector ≠ sectorOf base →
      (s.tracker.get d).record.commandSector ≠ some (sectorOf base) := fun h hs g => hs (Option.some.inj (h.symm.trans g))
  refine ⟨fun sector target data hr hs => ?_, fun hr => ?_, fun sector target e hr hs hpair => ?_,
    fun sector target e hr hs hpair => ?_, fun sector target o p e hr hs => ?_, fun sector target o p e hr hs => ?_⟩
  · have he := decided (outside (by rw [hr]; rfl) hs)
    refine ⟨fun hpair => ?_, fun hpair => ?_⟩
    · rw [missDecision_program u (r := now) hr hpair] at he
      exact to_policy he
    · rw [missDecision_deferred u (r := now) (.inl ⟨_, _, _, hr⟩) hpair] at he
      exact he
  · have he := decided (by rw [hr]; exact nofun)
    rw [missDecision_probe u (r := now) hr] at he
    exact to_policy he
  · have he := decided (outside (by rw [hr]; rfl) hs)
    rw [missDecision_deferred u (r := now) (.inr ⟨_, _, _, hr⟩) hpair] at he
    exact he
  · have he := decided (outside (by rw [hr]; rfl) hs)
    rw [missDecision_erase u (r := now) hr hpair] at he
    refine ⟨fun ha hdis hlt t0 hl => ?_, fun ha hdis heq => ⟨fun hfirst => ?_, fun hagain => ?_⟩, fun hoff => ?_⟩
    · have avail : suspensionAvailable u d e = true := (suspensionAvailable_iff u).mpr ⟨ha, hdis, hlt⟩
      refine ⟨fun ht hf => ?_, fun ht => ?_⟩
      · rw [decideErase_suspends u (r := now) avail hl ht hf] at he
        exact he
      · rw [decideErase_waits u (r := now) avail hl ht] at he
        exact he
    · rw [decideErase_falls u (r := now) (suspensionAvailable_none u (.inl heq)),
        reportBudget_first u (r := now) ha hdis heq hfirst] at he
      have hcall : (s.controller.get d).call = none → ((s.controller.set d
          { s.controller.get d with budgetReported := true }).get d).call = none := by
        rw [perDev_get_set]
        exact id
      obtain ⟨stall, pass⟩ := burst_falls s hb (base := base) (n := burstWords len)
        (ν.post (timeBase s)
          { kind := .budgetSpent, device := some d, address := some (lineOf base), entry := none, detail := 0 })
        (s.controller.set d { s.controller.get d with budgetReported := true })
      exact ⟨fun hm => he.trans (congrArg _ (stall hm)), fun hm hc => he.trans (congrArg _ (pass hm (hcall hc)))⟩
    · rw [decideErase_falls u (r := now) (suspensionAvailable_none u (.inl heq)),
        reportBudget_again u (r := now) (.inr (.inr hagain))] at he
      exact to_policy he
    · rw [decideErase_falls u (r := now) (suspensionAvailable_none u (.inr hoff)),
        reportBudget_again u (r := now) (hoff.imp_right .inl)] at he
      exact to_policy he
  · have he := decided (outside (by rw [hr]; rfl) hs)
    rw [missDecision_suspending u (r := now) hr] at he
    exact he
  · have he := decided (outside (by rw [hr]; rfl) hs)
    rw [missDecision_forwards u s.clock now (by
      rw [show (u.tracker.get (devOf now.addr)).record = _ from hr]
      rfl)] at he
    refine ⟨fun hc => ?_, fun c hc => ?_⟩
    · rw [forwardRead_released u now hb hc] at he
      exact he
    · rw [forwardRead_yields u (r := now) hb hc] at he
      exact he

end Sys2Proof.Machine
end

section
/-! PROOFS. Host writes: what the tracker does with each word in each state of its record (R70 to R84, R98 to R100, R131). -/

namespace Sys2Proof.Machine

set_option Elab.async false

variable (s : State)

/-! ### The taking of a write -/

/-- R130, R131: a free host face hands a write to the tracker at once. -/
theorem exec_hostWrite_ready (addr : BitVec 25) (word : Word) (h : HostReady s) (hl : LoaderIdle s) :
    exec (.hostWrite addr word) s = .next (arriveWrite addr.toNat word s) := by
  obtain ⟨h1, h2, h3⟩ := h
  have presented : presentWrite addr.toNat word s = arriveWrite addr.toNat word s := by
    rw [presentWrite, if_neg (by simp [h3]), if_neg (by simp [h1]), if_neg (by simp [h2])]
  have idle : LoaderIdle (arriveWrite addr.toNat word s) := (congrArg _ (arriveWrite_frame s _ _).loader).trans hl
  show attended (presentWrite addr.toNat word s) = _
  rw [presented, attended, loaderAttends_idle _ idle]

/-- R120: a SUSPEND that waits is taken back, and no other request. -/
theorem withdrawSuspend_eq (d : Dev) : withdrawSuspend d s = { s with service := match s.service.get d with
    | some q => if q.work = .suspend then s.service.set d none else s.service
    | none => s.service } := by
  simp only [withdrawSuspend]
  rcases h : s.service.get d with _ | ⟨work, addr, behind⟩
  · rfl
  · cases work <;> rfl

theorem breakHeld_setTransaction (d : Dev) (addr : Nat) (word : Word) (x : Transaction) :
    breakHeld d addr word (setTransaction x s) = setTransaction x (breakHeld d addr word s) := by
  have same : brokenCommand ((setTransaction x s).tracker.get d).record addr word
      = brokenCommand (s.tracker.get d).record addr word := rfl
  simp only [breakHeld, same]
  cases brokenCommand (s.tracker.get d).record addr word <;> rfl

theorem withdrawSuspend_setTransaction (d : Dev) (x : Transaction) :
    withdrawSuspend d (setTransaction x s) = setTransaction x (withdrawSuspend d s) := by
  rw [withdrawSuspend_eq, withdrawSuspend_eq]
  rfl

theorem withdrawResume_setTransaction (d : Dev) (x : Transaction) :
    withdrawResume d (setTransaction x s) = setTransaction x (withdrawResume d s) := by
  rw [withdrawResume_eq, withdrawResume_eq]
  rfl

theorem applyAction_setTransaction (d : Dev) (addr : Nat) (word : Word) (a : WriteAction) (x : Transaction) :
    applyAction d addr word a (setTransaction x s) = setTransaction x (applyAction d addr word a s) := by
  cases a with
  | hold next leaveStatus => cases leaveStatus <;> rfl
  | suspendForward next => simp only [applyAction, withdrawSuspend_setTransaction]; rfl
  | resumeForward next => simp only [applyAction, hostOwns, withdrawResume_setTransaction]; rfl
  | become next =>
    cases next with
    | suspended => simp only [applyAction, hostOwns, withdrawResume_setTransaction]; rfl
    | _ => rfl
  | _ => rfl

/-- R71: what the tracker does with a write is the same whatever transaction the host face shows. -/
theorem takeWrite_setTransaction (d : Dev) (addr : Nat) (word : Word) (x : Transaction) :
    takeWrite d addr word (setTransaction x s) = setTransaction x (takeWrite d addr word s) := by
  simp only [takeWrite, breakHeld_setTransaction, applyAction_setTransaction]
  rfl

/-- R71, R131: a settled record takes a write at once, unless it raises a transaction behind one that waits. -/
theorem exec_hostWrite_settled {addr : BitVec 25} {word : Word} (h : HostReady s) (hl : LoaderIdle s)
    (ht : TrackerSettled s (devOf addr.toNat)) (hp : pathBlocks s (devOf addr.toNat) addr.toNat word = false) :
    exec (.hostWrite addr word) s = .next (takeWrite (devOf addr.toNat) addr.toNat word s) := by
  have still : setTransaction .none s = s := by
    have none_now := h.1
    simp only [setTransaction, ← none_now]
  rw [exec_hostWrite_ready s addr word h hl, arriveWrite_settled s _ _ ht hp, takeWrite_setTransaction]
  show Host.Outcome.next (setTransaction .none (takeWrite _ _ _ s)) = _
  rw [← takeWrite_setTransaction, still]

theorem pathBlocks_still {d : Dev} {addr : Nat} {word : Word} (h : (writeAction s d addr word).raises = false) :
    pathBlocks s d addr word = false := by
  rw [pathBlocks, h, Bool.false_and]

theorem pathBlocks_free {d : Dev} {addr : Nat} {word : Word} (h : hostWaiting s d = 0) :
    pathBlocks s d addr word = false := by
  simp [pathBlocks, h]

/-- R71: a write that breaks no held sequence has its action carried out. -/
theorem takeWrite_whole {d : Dev} {addr : Nat} {word : Word}
    (hb : brokenCommand (s.tracker.get d).record addr word = none) :
    takeWrite d addr word s = applyAction d addr word (writeAction s d addr word) s := by
  simp only [takeWrite, breakHeld, hb]

/-- R74: a write that breaks one first discards it with SEQUENCE_REFUSED. -/
theorem takeWrite_broken {d : Dev} {addr : Nat} {word : Word} {a : Nat} {w : Word}
    (hb : brokenCommand (s.tracker.get d).record addr word = some (a, w)) : takeWrite d addr word s
      = applyAction d addr word (writeAction s d addr word) (setRecord d .array (postSequenceRefused d a w s)) := by
  simp only [takeWrite, breakHeld, hb]

/-- The record's state holds no sequence. -/
def Record.holdsNothing : Record → Bool
  | .heldProgram _ => false
  | .heldErase _ => false
  | _ => true

theorem brokenCommand_holdsNothing {r : Record} (h : r.holdsNothing = true) (addr : Nat) (word : Word) :
    brokenCommand r addr word = none := by
  cases r with
  | heldProgram x => exact absurd h Bool.false_ne_true
  | heldErase x => exact absurd h Bool.false_ne_true
  | _ => rfl

theorem writeKind_other {word : Word} (h1 : word ≠ 0x3C11) (h2 : word ≠ 0x3C22) (h3 : word ≠ 0x3C00) (h4 : word ≠ 0x3C55)
    (h5 : word ≠ 0x3C66) : writeKind word = .suspend ∨ writeKind word = .resume ∨ writeKind word = .other := by
  rw [writeKind, if_neg (show ¬ word = Config.arrayWord from h3), if_neg (show ¬ word = Config.programWord from h1),
    if_neg (show ¬ word = Config.eraseWord from h2)]
  by_cases hs : word = Config.suspendWord
  · exact .inl (if_pos hs)
  · rw [if_neg hs]
    by_cases hr : word = Config.resumeWord
    · exact .inr (.inl (if_pos hr))
    · rw [if_neg hr, if_neg (show ¬ word = Config.statusWord from h4),
        if_neg (show ¬ word = Config.clearStatusWord from h5)]
      exact .inr (.inr rfl)

/-! ### PROBE and ABSENT -/

section

variable {s} {addr : BitVec 25} {word : Word} (hready : HostReady s) (hidle : LoaderIdle s)
  (hset : TrackerSettled s (devOf addr.toNat))
include hready hidle hset

/-- A settled record that holds no sequence carries out the action of a write that raises nothing, or finds the path free. -/
theorem exec_hostWrite_acts {r : Record} {act : WriteAction} (hr : (s.tracker.get (devOf addr.toNat)).record = r)
    (hh : r.holdsNothing = true) (ha : writeAction s (devOf addr.toNat) addr.toNat word = act)
    (hp : act.raises = false ∨ hostWaiting s (devOf addr.toNat) = 0) :
    exec (.hostWrite addr word) s = .next (applyAction (devOf addr.toNat) addr.toNat word act s) := by
  rw [exec_hostWrite_settled s hready hidle hset
      (hp.elim (fun g => pathBlocks_still s (ha ▸ g)) fun g => pathBlocks_free s g),
    takeWrite_whole s (hr ▸ brokenCommand_holdsNothing hh _ _), ha]

end

/-- Settles O38. -/
theorem probeAndAbsentAbsorbEveryWrite : Obligations.ProbeAndAbsentAbsorbEveryWrite := by
  refine fun s addr word hready hidle hset => ⟨fun hr => ?_, fun hr hd => ?_⟩
  · refine exec_hostWrite_acts hready hidle hset hr rfl (act := .refuse) ?_ (.inl rfl)
    simp only [writeAction, hr]
  · rw [← hd] at hr ⊢
    refine exec_hostWrite_acts hready hidle hset hr rfl (act := .refuse) ?_ (.inl rfl)
    simp only [writeAction, hr]

/-! ### ARRAY, STATUS and REFUSED -/

theorem writeAction_array {d : Dev} {addr : Nat} {word : Word}
    (h : (s.tracker.get d).record = .array ∨ ∃ sector, (s.tracker.get d).record = .refused sector) :
    writeAction s d addr word = arrayAction addr word := by
  rcases h with h | ⟨sector, h⟩ <;> simp only [writeAction, h, refusedAction]

theorem writeAction_status {d : Dev} {addr sector : Nat} {word : Word} (h : (s.tracker.get d).record = .status sector) :
    writeAction s d addr word = statusAction sector addr word := by
  simp only [writeAction, h]

theorem arrayAction_other {addr : Nat} {word : Word} (h : writeKind word = .suspend ∨ writeKind word = .resume
    ∨ writeKind word = .other) : arrayAction addr word = .refuse := by
  rcases h with h | h | h <;> simp only [arrayAction, h]

theorem statusAction_other {sector addr : Nat} {word : Word} (h : writeKind word = .suspend ∨ writeKind word = .resume
    ∨ writeKind word = .other) : statusAction sector addr word = .refuse := by
  rcases h with h | h | h <;> simp only [statusAction, h]

/-! ### Completing and breaking a sequence -/

theorem setRecord_setRecord (d : Dev) (r q : Record) : setRecord d r (setRecord d q s) = setRecord d r s := by
  simp only [setRecord, modTracker, perDev_get_set, perDev_set_set]

/-- R85: the record of a forwarded operation, no rise being a completion yet. -/
theorem disarm_setRecord (d : Dev) (r : Record) : disarm d (setRecord d r s)
    = { s with tracker := s.tracker.set d { s.tracker.get d with record := r, armed := false } } := by
  simp only [disarm, setRecord, modTracker, perDev_get_set, perDev_set_set]

/-- R73, R98: a completed sequence of an OPEN sector raises its command pair. -/
theorem completingAction_opened {addr held : Nat} {word : Word} :
    (lockAt s (sectorOf held) = .opened →
      completingAction s (.heldProgram held) addr word
        = .pair held Config.programWord (.busyProgram (sectorOf held) addr word)
      ∧ completingAction s (.heldErase held) addr word
        = .pair held Config.eraseWord (.busyErase (sectorOf held) addr none))
    ∧ (lockAt s (sectorOf held) ≠ .opened →
      completingAction s (.heldProgram held) addr word = .guardRefused 1 (sectorOf held)
      ∧ completingAction s (.heldErase held) addr word = .guardRefused 2 (sectorOf held)) := by
  refine ⟨fun h => ?_, fun h => ?_⟩
  · have allowed : guardAllows s (sectorOf held) = true := decide_eq_true h
    exact ⟨if_pos allowed, if_pos allowed⟩
  · have refused : ¬ guardAllows s (sectorOf held) = true := by simp [guardAllows, h]
    exact ⟨if_neg refused, if_neg refused⟩

theorem takeWrite_completes {d : Dev} {r : Record} {addr : Nat} {word : Word} (hr : (s.tracker.get d).record = r)
    (hc : completes r addr word = true) :
    takeWrite d addr word s = applyAction d addr word (completingAction s r addr word) s := by
  have whole : brokenCommand r addr word = none := if_pos hc
  rw [takeWrite_whole s (hr ▸ whole)]
  cases r with
  | heldProgram x => simp only [writeAction, hr, hc, if_true]
  | heldErase x => simp only [writeAction, hr, hc, if_true]
  | _ => exact absurd hc Bool.false_ne_true

/-- R74: the write that breaks a held sequence is taken as in ARRAY, the sequence discarded. -/
theorem takeWrite_breaks {d : Dev} {addr held : Nat} {word heldWord : Word}
    (h : ((s.tracker.get d).record = .heldProgram held ∧ addr ≠ held ∧ heldWord = 0x3C11)
      ∨ ((s.tracker.get d).record = .heldErase held ∧ (word ≠ 0x3CEE ∨ sectorOf addr ≠ sectorOf held)
        ∧ heldWord = 0x3C22)) : takeWrite d addr word s
      = applyAction d addr word (arrayAction addr word) (setRecord d .array (postSequenceRefused d held heldWord s)) := by
  rcases h with ⟨hr, ha, rfl⟩ | ⟨hr, hw, rfl⟩
  · have not_completes : completes (.heldProgram held) addr word = false := decide_eq_false ha
    have hb : brokenCommand (s.tracker.get d).record addr word = some (held, 0x3C11) := by
      rw [hr]
      exact if_neg (by simp [not_completes])
    rw [takeWrite_broken s hb]
    simp only [writeAction, hr, not_completes, Bool.false_eq_true, if_false]
  · have not_completes : completes (.heldErase held) addr word = false :=
      decide_eq_false fun g => hw.elim (fun n => n g.1) fun n => n g.2
    have hb : brokenCommand (s.tracker.get d).record addr word = some (held, 0x3C22) := by
      rw [hr]
      exact if_neg (by simp [not_completes])
    rw [takeWrite_broken s hb]
    simp only [writeAction, hr, not_completes, Bool.false_eq_true, if_false]

/-- Settles O37: the write that completes the sequence asks the guard, and the one that breaks it is taken as in ARRAY. -/
theorem completedSequencesAskTheGuard : Obligations.CompletedSequencesAskTheGuard := by
  intro s addr word held hready hidle a d refusal broken forwarded hset hpath
  have taken := fun w => exec_hostWrite_settled s (word := w) hready hidle hset (pathBlocks_free s hpath)
  refine ⟨fun hr => ?_, fun hr hs => ?_, fun heldWord hbreak => ?_⟩
  · have hc : completes (.heldProgram a) a word = true := decide_eq_true rfl
    rw [taken, takeWrite_completes s hr hc]
    obtain ⟨opened, shut⟩ := completingAction_opened s (addr := a) (held := a) (word := word)
    refine ⟨fun h => ?_, fun h => ?_⟩
    · rw [(opened h).1, applyAction, disarm_setRecord]
      rfl
    · rw [(shut h).1]
      rfl
  · have hc : completes (.heldErase held) a 0x3CEE = true := decide_eq_true ⟨rfl, hs⟩
    rw [taken, takeWrite_completes s hr hc]
    obtain ⟨opened, shut⟩ := completingAction_opened s (addr := a) (held := held) (word := 0x3CEE)
    rw [hs]
    refine ⟨fun h => ?_, fun h => ?_⟩
    · rw [(opened h).2, applyAction, disarm_setRecord]
      rfl
    · rw [(shut h).2]
      rfl
  · have broke : takeWrite d a word s = applyAction d a word (arrayAction a word)
        (setRecord d .array (postSequenceRefused d held heldWord s)) := takeWrite_breaks s hbreak
    rw [taken, broke]
    refine ⟨?_, ?_, ?_, ?_, ?_, fun h1 h2 h3 h4 h5 => ?_⟩
    · rintro rfl
      exact congrArg Host.Outcome.next (setRecord_setRecord (postSequenceRefused d held heldWord s) d _ _)
    · rintro rfl
      exact congrArg Host.Outcome.next (setRecord_setRecord (postSequenceRefused d held heldWord s) d _ _)
    · rintro rfl
      exact congrArg (fun u => Host.Outcome.next (raiseHost (.write a 0x3C00) u))
        (setRecord_setRecord (postSequenceRefused d held heldWord s) d _ _)
    · rintro rfl
      exact congrArg (fun u => Host.Outcome.next (raiseHost (.write a 0x3C55) u))
        (setRecord_setRecord (postSequenceRefused d held heldWord s) d _ _)
    · rintro rfl
      exact congrArg (fun u => Host.Outcome.next (raiseHost (.write a 0x3C66) u))
        (setRecord_setRecord (postSequenceRefused d held heldWord s) d _ _)
    · rw [arrayAction_other (writeKind_other h1 h2 h3 h4 h5)]
      rfl

/-! ### BUSY and the suspension -/

theorem writeKind_suspend {word : Word} (h : writeKind word = .suspend) : word = 0x3C44 := by
  unfold writeKind at h
  split_ifs at h
  assumption

theorem writeKind_resume {word : Word} (h : writeKind word = .resume) : word = 0x3C45 := by
  unfold writeKind at h
  split_ifs at h
  assumption

/-- R78: ARRAY, STATUS and CLEAR_STATUS are absorbed silently, every other word with SEQUENCE_REFUSED. -/
theorem busyAction_eq (word : Word) :
    busyAction word = if word = 0x3C00 ∨ word = 0x3C55 ∨ word = 0x3C66 then .silent else .refuse := by
  by_cases h : word = 0x3C00 ∨ word = 0x3C55 ∨ word = 0x3C66
  · rw [if_pos h]
    rcases h with rfl | rfl | rfl <;> rfl
  · rw [if_neg h]
    obtain ⟨h3, h4, h5⟩ := not_or.mp h |>.imp_right not_or.mp
    by_cases h1 : word = 0x3C11
    · subst h1; rfl
    · by_cases h2 : word = 0x3C22
      · subst h2; rfl
      · rcases writeKind_other h1 h2 h3 h4 h5 with h | h | h <;> simp only [busyAction, h]

theorem busyAction_still (word : Word) : (busyAction word).raises = false := by
  rw [busyAction_eq]
  split <;> rfl

theorem busyEraseAction_other {sector target : Nat} {e : Option EraseFields} {word : Word} (h : word ≠ 0x3C44) :
    busyEraseAction sector target e word = busyAction word := by
  cases hk : writeKind word with
  | suspend => exact absurd (writeKind_suspend hk) h
  | _ => simp only [busyEraseAction, hk]

theorem suspendingAction_other {sector target : Nat} {o : Owner} {p : Bool} {e : Option EraseFields} {word : Word}
    (h : word ≠ 0x3C44) (g : word ≠ 0x3C45) : suspendingAction sector target o p e word = busyAction word := by
  cases hk : writeKind word with
  | suspend => exact absurd (writeKind_suspend hk) h
  | resume => exact absurd (writeKind_resume hk) g
  | _ => simp only [suspendingAction, hk]

theorem suspendedAction_other {stands : Bool} {sector target : Nat} {p : Bool} {e : Option EraseFields} {word : Word}
    (h : word ≠ 0x3C44) (g : word ≠ 0x3C45) : suspendedAction stands sector target p e word = busyAction word := by
  cases hk : writeKind word with
  | suspend => exact absurd (writeKind_suspend hk) h
  | resume => exact absurd (writeKind_resume hk) g
  | _ => simp only [suspendedAction, hk]

theorem pendingResumeWaits_iff {d : Dev} : pendingResumeWaits s d = true
    ↔ ∃ q, s.service.get d = some q ∧ q.work = .resume .pendingResume := by
  rcases h : s.service.get d with _ | ⟨work, addr, behind⟩
  · simp [pendingResumeWaits, h]
  · cases work with
    | resume cause => cases cause <;> simp [pendingResumeWaits, h]
    | _ => simp [pendingResumeWaits, h]

/-- R125, R127: the host's own suspension: the timers stopped, their RESUME taken back, and the record as given. -/
theorem setRecord_hostOwns (d : Dev) (r : Record) : setRecord d r (hostOwns d s) = { s.withRecord d r with
    controller := s.controller.set d { s.controller.get d with idleTimer := none, holdTimer := none, call := none }
    service := match s.service.get d with
      | some q => if q.work = .resume .timers then s.service.set d none else s.service
      | none => s.service } := by
  rw [hostOwns, withdrawResume_eq]
  rfl

/-- Settles O39: the action of each word in each of the four states. -/
theorem busyProgramAbsorbsEveryWrite : Obligations.BusyProgramAbsorbsEveryWrite := by
  intro s addr word sector target hready hidle a d absorbed hset
  have absorbs : ∀ {r : Record}, (s.tracker.get d).record = r → r.holdsNothing = true →
      writeAction s d a word = busyAction word → exec (.hostWrite addr word) s = .next absorbed := by
    intro r hr hh ha
    refine (exec_hostWrite_acts hready hidle hset hr hh ha (.inl (busyAction_still word))).trans ?_
    rw [busyAction_eq]
    by_cases hw : word = 0x3C00 ∨ word = 0x3C55 ∨ word = 0x3C66
    · rw [if_pos hw]
      exact congrArg Host.Outcome.next (if_pos hw).symm
    · rw [if_neg hw]
      exact congrArg Host.Outcome.next (if_neg hw).symm
  refine ⟨fun data hr => ?_, fun e hr => ⟨fun h => ?_, fun hpath hserv => ?_⟩, fun o p e hr => ⟨fun h g => ?_, ?_, ?_⟩,
    fun o p e hr => ?_⟩
  · exact absorbs hr rfl (by simp only [writeAction, hr])
  · exact absorbs hr rfl (by simp only [writeAction, hr, busyEraseAction_other h])
  · have ha : writeAction s d a 0x3C44 = .suspendForward (.suspending sector target .host false e) := by
      simp only [writeAction, hr]
      rfl
    rw [exec_hostWrite_acts hready hidle hset hr rfl ha (.inr hpath), applyAction, withdrawSuspend_eq, hserv]
    rfl
  · exact absorbs hr rfl (by simp only [writeAction, hr, suspendingAction_other h g])
  · have ha : writeAction s d a 0x3C44 = .become (.suspending sector target .host p e) := by
      simp only [writeAction, hr]
      rfl
    exact exec_hostWrite_acts hready hidle hset hr rfl ha (.inl rfl)
  · have ha : writeAction s d a 0x3C45 = .become (.suspending sector target o true e) := by
      simp only [writeAction, hr]
      rfl
    exact exec_hostWrite_acts hready hidle hset hr rfl ha (.inl rfl)
  · have resumes : writeAction s d a 0x3C45
        = if pendingResumeWaits s d then .silent else .resumeForward (.busyErase sector target e) := by
      simp only [writeAction, hr]
      rfl
    intro stopped
    refine ⟨fun h g => ?_, ?_, fun hnone hpath => ?_, fun q hq hw => ?_⟩
    · exact absorbs hr rfl (by simp only [writeAction, hr, suspendedAction_other h g])
    · have ha : writeAction s d a 0x3C44 = .become (.suspended sector target .host p e) := by
        simp only [writeAction, hr]
        rfl
      rw [exec_hostWrite_acts hready hidle hset hr rfl ha (.inl rfl), applyAction, setRecord_hostOwns] <;> rfl
    · have waits : ¬ pendingResumeWaits s d = true := fun g =>
        (pendingResumeWaits_iff s).mp g |>.elim fun q hq => hnone q hq.1 hq.2
      rw [if_neg waits] at resumes
      rw [exec_hostWrite_acts hready hidle hset hr rfl resumes (.inr hpath), applyAction, disarm_setRecord,
        hostOwns, withdrawResume_eq]
      rfl
    · rw [if_pos ((pendingResumeWaits_iff s).mpr ⟨q, hq, hw⟩)] at resumes
      exact exec_hostWrite_acts hready hidle hset hr rfl resumes (.inl rfl)

end Sys2Proof.Machine
end

section
/-! PROOFS. Host writes in ARRAY, STATUS and REFUSED, and the writes that a record keeps (R72, R76, R77, R87, R89, R131). -/

namespace Sys2Proof.Machine

set_option Elab.async false

variable (s : State) {d : Dev} {addr : Nat} {word : Word}

/-! ### What holds a write back -/

/-- R87, R89: a record is unsettled while its status is being read, a follow run is kept back for it, or a cleanup write or
one of the loader's is raised for it or on the bus. -/
theorem stateUnsettled_false (hr : (s.tracker.get d).reading = false) (hk : (s.tracker.get d).keptRun = none)
    (hs : ∀ q, s.service.get d = some q → q.work ≠ .resume .cleanup ∧ q.work ≠ .resume .loader
      ∧ ∀ c, q.work ≠ .arrayWrite c) (hb : ∀ e w a, s.bus ≠ some (.service e w a)) : stateUnsettled s d = false := by
  have no_request : (match s.service.get d with
      | some q => (match q.work with
        | .resume .cleanup => true
        | .resume .loader => true
        | .arrayWrite _ => true
        | _ => false)
      | none => false) = false := by
    rcases h : s.service.get d with _ | ⟨work, a, n⟩
    · rfl
    · obtain ⟨h1, h2, h3⟩ := hs _ h
      cases work with
      | resume cause =>
        cases cause with
        | cleanup => exact absurd rfl h1
        | loader => exact absurd rfl h2
        | _ => rfl
      | arrayWrite c => exact absurd rfl (h3 c)
      | _ => rfl
  have no_write : (match s.bus with
      | some (.service e w _) => e == d && (match w with
        | .resume .cleanup => true
        | .resume .loader => true
        | .arrayWrite _ => true
        | _ => false)
      | _ => false) = false := by
    split
    · exact absurd ‹_› (hb _ _ _)
    · rfl
  rw [stateUnsettled, hr, hk]
  exact Bool.or_eq_false_iff.mpr ⟨rfl, Bool.or_eq_false_iff.mpr ⟨no_request, no_write⟩⟩

theorem stateUnsettled_of (h : (s.tracker.get d).reading = true ∨ (∃ run, (s.tracker.get d).keptRun = some run)
    ∨ (∃ q, s.service.get d = some q ∧ (q.work = .resume .cleanup ∨ ∃ c, q.work = .arrayWrite c))
    ∨ (∃ x, s.bus = some (.service d (.resume .cleanup) x)) ∨ (∃ c x, s.bus = some (.service d (.arrayWrite c) x))) :
    stateUnsettled s d = true := by
  rcases h with h | ⟨run, h⟩ | ⟨⟨work, a, n⟩, h, hw⟩ | ⟨x, h⟩ | ⟨c, x, h⟩
  · simp [stateUnsettled, h]
  · simp [stateUnsettled, h]
  · rcases hw with rfl | ⟨c, rfl⟩ <;> simp [stateUnsettled, cleanupOutstanding, h]
  · simp [stateUnsettled, cleanupOutstanding, h]
  · simp [stateUnsettled, cleanupOutstanding, h]

/-- R87, R89, R131: a record that keeps nothing keeps a write that its state, or the path, holds back. -/
theorem arriveWrite_keeps (hk : (s.tracker.get (devOf addr)).kept = [])
    (h : stateUnsettled s (devOf addr) = true ∨ pathBlocks s (devOf addr) addr word = true) :
    arriveWrite addr word s = s.keeping addr word (stateUnsettled s (devOf addr)) := by
  have kept : modTracker (devOf addr) (fun t => { t with kept := t.kept
        ++ [{ addr := addr, word := word, hostWaits := true, untilState := stateUnsettled s (devOf addr) }] })
      (setTransaction (.write addr word) s) = s.keeping addr word (stateUnsettled s (devOf addr)) := by
    simp only [modTracker, setTransaction, hk, State.keeping, List.nil_append]
  have path : pathBlocks (s.keeping addr word (stateUnsettled s (devOf addr))) (devOf addr) addr word
      = pathBlocks s (devOf addr) addr word := by
    simp only [State.keeping, pathBlocks, writeAction, perDev_get_set, completingAction, guardAllows, lockAt,
      pendingResumeWaits, hostWaiting]
    rfl
  have list : ((s.keeping addr word (stateUnsettled s (devOf addr))).tracker.get (devOf addr)).kept
      = [{ addr := addr, word := word, hostWaits := true, untilState := stateUnsettled s (devOf addr) }] := by
    simp only [State.keeping, perDev_get_set]
  show retakeKept (devOf addr) (modTracker _ _ (setTransaction _ s)) = _
  rw [kept, retakeKept, list]
  simp only [List.length_singleton, drainKept, list]
  refine if_pos ?_
  rcases h with h | h
  · simp [h]
  · rw [path, h]
    simp

/-! ### A kept write and the end of what held it back -/

/-- R87, R89: `f`, which ends what a record waits for, passes the write kept for it on: with nothing kept it leaves the host
face and the loader as they were, and otherwise the write is taken as one that arrives then. -/
structure PassesWrite (addr : Nat) (word : Word) (f : State → State) (s : State) : Prop where
  host : (f s).host = s.host
  loader : (f s).loader = s.loader
  taken : f (s.keeping addr word true) = arriveWrite addr word (f s)

/-- The record of the device of `addr` keeps nothing as what it waits for ends: no transaction of the host is present, no
cleanup write or loader's write is asked for, no follow run is kept back, and the bus is free again. -/
structure AwaitsEnd (addr : Nat) (s : State) : Prop where
  host : s.host.transaction = .none
  kept : (s.tracker.get (devOf addr)).kept = []
  run : (s.tracker.get (devOf addr)).keptRun = none
  service : ∀ q, s.service.get (devOf addr) = some q →
    q.work ≠ .resume .cleanup ∧ q.work ≠ .resume .loader ∧ ∀ c, q.work ≠ .arrayWrite c
  bus : s.bus = none

variable {s} {f g : State → State}

theorem AwaitsEnd.settled (h : AwaitsEnd addr s) (hr : (s.tracker.get (devOf addr)).reading = false) :
    stateUnsettled s (devOf addr) = false :=
  stateUnsettled_false s hr h.run h.service fun e w a g => by rw [h.bus] at g; exact nomatch g

theorem AwaitsEnd.nothingStalled (h : AwaitsEnd addr s) : NothingStalled s d := by
  rintro r since why ⟨ht, -, -⟩
  rw [h.host] at ht
  exact nomatch ht

/-- R131: no burst is stalled once a write has been taken or kept. -/
theorem arriveWrite_nothingStalled (hk : (s.tracker.get (devOf addr)).kept = []) :
    NothingStalled (arriveWrite addr word s) d := by
  rintro r since why ⟨ht, -, -⟩
  by_cases h : stateUnsettled s (devOf addr) = true ∨ pathBlocks s (devOf addr) addr word = true
  · rw [arriveWrite_keeps s hk h] at ht
    exact nomatch ht
  · obtain ⟨h1, h2⟩ := not_or.mp h
    rw [arriveWrite_settled s addr word ⟨hk, Bool.eq_false_iff.mpr h1⟩ (Bool.eq_false_iff.mpr h2)] at ht
    exact nomatch ht

theorem PassesWrite.congr (h : PassesWrite addr word g s) (hs : f s = g s)
    (hk : f (s.keeping addr word true) = g (s.keeping addr word true)) : PassesWrite addr word f s :=
  ⟨by rw [hs]; exact h.host, by rw [hs]; exact h.loader, by rw [hs, hk]; exact h.taken⟩

/-- What is done first leaves the kept write, the host face and the loader as they were. -/
theorem PassesWrite.after (h : PassesWrite addr word f (g s))
    (hk : g (s.keeping addr word true) = (g s).keeping addr word true) (hh : (g s).host = s.host)
    (hl : (g s).loader = s.loader) : PassesWrite addr word (fun t => f (g t)) s :=
  ⟨h.host.trans hh, h.loader.trans hl, (congrArg f hk).trans h.taken⟩

/-- A record that is unsettled after `f` keeps the write. -/
theorem PassesWrite.of_unsettled (hk : f (s.keeping addr word true) = (f s).keeping addr word true)
    (hh : (f s).host = s.host) (hl : (f s).loader = s.loader) (hn : ((f s).tracker.get (devOf addr)).kept = [])
    (hu : stateUnsettled (f s) (devOf addr) = true) : PassesWrite addr word f s :=
  ⟨hh, hl, by rw [hk, arriveWrite_keeps _ hn (.inl hu), hu]⟩

/-- R87, R89: a record that has settled has the write taken. -/
theorem releaseKept_passes (h : AwaitsEnd addr s) (hr : (s.tracker.get (devOf addr)).reading = false) :
    PassesWrite addr word (releaseKept (devOf addr)) s := by
  have nothing := releaseKept_nothing s _ h.kept
  exact ⟨by rw [nothing], by rw [nothing], by rw [nothing, releaseKept_keeping s addr word h.kept (h.settled hr)]⟩

/-- R116: with no burst stalled, what is decided again is nothing. -/
theorem resolveStalled_releaseKept_passes (h : AwaitsEnd addr s) (hr : (s.tracker.get (devOf addr)).reading = false) :
    PassesWrite addr word (fun t => resolveStalled (devOf addr) (releaseKept (devOf addr) t)) s := by
  have released := releaseKept_passes (word := word) h hr
  have nothing : releaseKept (devOf addr) s = s := releaseKept_nothing s _ h.kept
  have calm : resolveStalled (devOf addr) (releaseKept (devOf addr) s) = releaseKept (devOf addr) s := by
    rw [nothing, resolveStalled_nothing s _ h.nothingStalled]
  refine released.congr calm ?_
  rw [released.taken, nothing]
  exact resolveStalled_nothing _ _ (arriveWrite_nothingStalled h.kept)

/-! ### The status read -/

/-- R86: the record enters STATUS, and the write is taken. -/
theorem enterStatus_passes (sector : Nat) (h : AwaitsEnd addr s) :
    PassesWrite addr word (enterStatus (devOf addr) sector) s := by
  let g (t : State) : State := lapseController (devOf addr) (modTracker (devOf addr) (fun t =>
    { t with record := .status sector, armed := false, reading := false, keptRun := none }) t)
  have tracker : (g s).tracker.get (devOf addr) = { s.tracker.get (devOf addr) with
      record := .status sector, armed := false, reading := false, keptRun := none } := perDev_get_set _ _ _
  refine PassesWrite.after (g := g) (resolveStalled_releaseKept_passes
    ⟨h.host, by rw [tracker]; exact h.kept, by rw [tracker], h.service, h.bus⟩ (by rw [tracker])) ?_ rfl rfl
  simp only [g, State.keeping, lapseController, modController, modTracker, perDev_get_set, perDev_set_set]

/-- R86, R121: the status read is made again, and the write stays kept for it. -/
theorem raiseStatusRead_passes (sector : Nat) (h : AwaitsEnd addr s) :
    PassesWrite addr word (raiseStatusRead (devOf addr) sector) s := by
  refine .of_unsettled ?_ rfl rfl ?_ (stateUnsettled_of _ (.inl ?_))
  · simp only [raiseStatusRead, raiseService, State.keeping, modTracker, perDev_get_set, perDev_set_set, hostWaiting]
  · simp only [raiseStatusRead, raiseService, modTracker, perDev_get_set, h.kept]
  · simp only [raiseStatusRead, raiseService, modTracker, perDev_get_set]

/-- R85, R86: the reading is over, and no rise is a completion until the next operation. -/
def readingOver (d : Dev) (s : State) : State := modTracker d (fun t => { t with armed := false, reading := false }) s

/-- R86: a status word with a fail flag. -/
theorem completeOperation_fails (s : State) (sector target : Nat) {w : Word} (hw : statusFails w = true) :
    completeOperation d sector target w s = enterStatus d sector (postOp .opFailed d target w (readingOver d s)) :=
  if_pos hw

/-- R86: a status word with no fail flag, and no follow run. -/
theorem completeOperation_runless (s : State) (sector target : Nat) {w : Word} (hw : statusFails w = false)
    (hf : followRunOf s d (s.tracker.get d).record = none) :
    completeOperation d sector target w s = enterStatus d sector (postOp .opDone d target w (readingOver d s)) := by
  have none_now : followRunOf (postOp .opDone d target w (readingOver d s)) d (s.tracker.get d).record = none := hf
  refine (if_neg (by simp [hw])).trans ?_
  show (match followRunOf (postOp .opDone d target w (readingOver d s)) d (s.tracker.get d).record with
    | none => _
    | some _ => _) = _
  rw [none_now]
  rfl

/-- R18: the run of a completion is kept back while the follow list holds one of its device, and handed over otherwise. -/
theorem completeOperation_run (s : State) (sector target : Nat) {w : Word} {run : FollowRun} (hw : statusFails w = false)
    (hf : followRunOf s d (s.tracker.get d).record = some run) : completeOperation d sector target w s
      = if listHolds s d
        then modTracker d (fun t => { t with keptRun := some run }) (postOp .opDone d target w (readingOver d s))
        else enterStatus d sector (handOver run (postOp .opDone d target w (readingOver d s))) := by
  have run_now : followRunOf (postOp .opDone d target w (readingOver d s)) d (s.tracker.get d).record = some run := hf
  refine (if_neg (by simp [hw])).trans ?_
  show (match followRunOf (postOp .opDone d target w (readingOver d s)) d (s.tracker.get d).record with
    | none => _
    | some _ => _) = _
  rw [run_now]
  rfl

theorem keeping_record (s : State) (u : Bool) :
    ((s.keeping addr word u).tracker.get (devOf addr)).record = (s.tracker.get (devOf addr)).record := by
  simp only [State.keeping, perDev_get_set]

theorem readingOver_keeping (s : State) : readingOver (devOf addr) (s.keeping addr word true)
    = (readingOver (devOf addr) s).keeping addr word true := by
  simp only [readingOver, State.keeping, modTracker, perDev_get_set, perDev_set_set]

theorem AwaitsEnd.readingOver (h : AwaitsEnd addr s) : AwaitsEnd addr (readingOver (devOf addr) s) := by
  have tracker : ((Machine.readingOver (devOf addr) s).tracker.get (devOf addr))
      = { s.tracker.get (devOf addr) with armed := false, reading := false } := perDev_get_set _ _ _
  exact ⟨h.host, by rw [tracker]; exact h.kept, by rw [tracker]; exact h.run, h.service, h.bus⟩

theorem handOver_keeping (run : FollowRun) (s : State) :
    handOver run (s.keeping addr word true) = (handOver run s).keeping addr word true := by
  unfold handOver beginRun
  show (match s.follow.current, s.follow.waiting ++ [run] with | none, run :: rest => _ | _, _ => _) = _
  rcases s.follow.current with _ | x
  · rcases hl : s.follow.waiting ++ [run] with _ | ⟨y, ys⟩
    · exact absurd hl (List.append_ne_nil_of_right_ne_nil _ (List.cons_ne_nil _ _))
    · rfl
  · rfl

/-- R18: handing a run over changes the follow list alone. -/
theorem handOver_eq (run : FollowRun) (s : State) : ∃ l, handOver run s = { s with follow := l } := by
  unfold handOver beginRun
  split <;> exact ⟨_, rfl⟩

/-- R86: a completion enters STATUS and has the write taken, or keeps its run back and the write with it. -/
theorem completeOperation_passes (sector target : Nat) (w : Word) (h : AwaitsEnd addr s) :
    PassesWrite addr word (completeOperation (devOf addr) sector target w) s := by
  have enters := fun (u : State) (hu : AwaitsEnd addr u) => enterStatus_passes (word := word) sector hu
  have hover := h.readingOver
  have followed : followRunOf (s.keeping addr word true) (devOf addr)
      ((s.keeping addr word true).tracker.get (devOf addr)).record
        = followRunOf s (devOf addr) (s.tracker.get (devOf addr)).record := by
    rw [keeping_record]
    rfl
  cases hw : statusFails w with
  | true =>
    refine PassesWrite.congr (g := fun t => enterStatus (devOf addr) sector
        (postOp .opFailed (devOf addr) target w (readingOver (devOf addr) t))) ?_
      (completeOperation_fails s sector target hw) (completeOperation_fails _ sector target hw)
    exact .after (enters _ ⟨hover.host, hover.kept, hover.run, hover.service, hover.bus⟩)
      (by rw [readingOver_keeping]; rfl) rfl rfl
  | false =>
    cases hf : followRunOf s (devOf addr) (s.tracker.get (devOf addr)).record with
    | none =>
      refine PassesWrite.congr (g := fun t => enterStatus (devOf addr) sector
          (postOp .opDone (devOf addr) target w (readingOver (devOf addr) t))) ?_
        (completeOperation_runless s sector target hw hf) (completeOperation_runless _ sector target hw (followed.trans hf))
      exact .after (enters _ ⟨hover.host, hover.kept, hover.run, hover.service, hover.bus⟩)
        (by rw [readingOver_keeping]; rfl) rfl rfl
    | some run =>
      have now := completeOperation_run s sector target hw hf
      have later := completeOperation_run _ sector target hw (followed.trans hf)
      by_cases hl : listHolds s (devOf addr) = true
      · rw [if_pos hl] at now
        rw [if_pos (show listHolds (s.keeping addr word true) (devOf addr) = true from hl)] at later
        refine PassesWrite.congr (g := fun t => modTracker (devOf addr) (fun t => { t with keptRun := some run })
          (postOp .opDone (devOf addr) target w (readingOver (devOf addr) t))) ?_ now later
        refine .of_unsettled ?_ rfl rfl ?_ (stateUnsettled_of _ (.inr (.inl ⟨run, ?_⟩)))
        · rw [readingOver_keeping]
          simp only [modTracker, postOp, post, State.keeping, perDev_get_set, perDev_set_set]
          rfl
        · simp only [modTracker, perDev_get_set]
          exact hover.kept
        · simp only [modTracker, perDev_get_set]
      · rw [if_neg hl] at now
        rw [if_neg (show ¬ listHolds (s.keeping addr word true) (devOf addr) = true from hl)] at later
        refine PassesWrite.congr (g := fun t => enterStatus (devOf addr) sector
          (handOver run (postOp .opDone (devOf addr) target w (readingOver (devOf addr) t)))) ?_ now later
        obtain ⟨l, hl⟩ := handOver_eq run (postOp .opDone (devOf addr) target w (readingOver (devOf addr) s))
        refine .after (enters _ ?_) ?_ ?_ ?_
        · rw [hl]
          exact ⟨hover.host, hover.kept, hover.run, hover.service, hover.bus⟩
        · rw [← handOver_keeping, readingOver_keeping]
          rfl
        · rw [hl]
          rfl
        · rw [hl]
          rfl

/-- R121, R123, R124: the record arrives in SUSPENDED, and the write is taken. -/
theorem arriveSuspended_passes (sector target : Nat) (o : Owner) (p : Bool) (e : Option EraseFields)
    (h : AwaitsEnd addr s) : PassesWrite addr word (arriveSuspended (devOf addr) sector target o p e) s := by
  let g (t : State) : State := modTracker (devOf addr) (fun t =>
    { t with record := .suspended sector target o p e, reading := false }) t
  have tracker : (g s).tracker.get (devOf addr) = { s.tracker.get (devOf addr) with
      record := .suspended sector target o p e, reading := false } := perDev_get_set _ _ _
  have hkeep : g (s.keeping addr word true) = (g s).keeping addr word true := by
    simp only [g, State.keeping, modTracker, perDev_get_set, perDev_set_set]
  have arrived : AwaitsEnd addr (g s) :=
    ⟨h.host, by rw [tracker]; exact h.kept, by rw [tracker]; exact h.run, h.service, h.bus⟩
  have still : ((g s).tracker.get (devOf addr)).reading = false := by rw [tracker]
  cases p with
  | true =>
    let raised (t : State) : State := raiseService (devOf addr) (.resume .pendingResume) (sectorBase sector) (g t)
    have hraised : (raised s).service.get (devOf addr) = some
        { work := .resume .pendingResume, addr := sectorBase sector, behind := hostWaiting (g s) (devOf addr) } :=
      perDev_get_set _ _ _
    refine PassesWrite.congr (g := fun t => releaseKept (devOf addr) (raised t)) ?_ rfl rfl
    refine .after (releaseKept_passes ⟨arrived.host, arrived.kept, arrived.run, fun q hq => ?_, arrived.bus⟩ still) ?_ rfl rfl
    · cases hraised.symm.trans hq
      exact ⟨nofun, nofun, nofun⟩
    · simp only [raised, hkeep]
      rfl
  | false =>
    by_cases ho : o = .part
    · let timed (t : State) : State := modController (devOf addr)
        (fun k => { k with idleTimer := some t.clock, holdTimer := some t.clock, call := none }) (g t)
      have same : ∀ t, arriveSuspended (devOf addr) sector target o false e t
          = resolveStalled (devOf addr) (releaseKept (devOf addr) (timed t)) := fun t =>
        congrArg (fun u => resolveStalled (devOf addr) (releaseKept (devOf addr) u)) (if_pos ho)
      refine PassesWrite.congr (g := fun t => resolveStalled (devOf addr) (releaseKept (devOf addr) (timed t))) ?_
        (same _) (same _)
      refine .after (g := timed) (resolveStalled_releaseKept_passes
        ⟨arrived.host, arrived.kept, arrived.run, arrived.service, arrived.bus⟩ still) ?_ rfl rfl
      simp only [timed, hkeep]
      rfl
    · have same : ∀ t, arriveSuspended (devOf addr) sector target o false e t
          = resolveStalled (devOf addr) (releaseKept (devOf addr) (g t)) := fun t =>
        congrArg (fun u => resolveStalled (devOf addr) (releaseKept (devOf addr) u)) (if_neg ho)
      refine PassesWrite.congr (g := fun t => resolveStalled (devOf addr) (releaseKept (devOf addr) (g t))) ?_
        (same _) (same _)
      exact .after (g := g) (resolveStalled_releaseKept_passes arrived still) hkeep rfl rfl

/-- R86, R121, R123: the status read of a busy or a suspending record ends. -/
theorem statusReadEnds_passes (w : Word) (h : AwaitsEnd addr s)
    (hr : (∃ sector target data, (s.tracker.get (devOf addr)).record = .busyProgram sector target data)
      ∨ (∃ sector target e, (s.tracker.get (devOf addr)).record = .busyErase sector target e)
      ∨ ∃ sector target o p e, (s.tracker.get (devOf addr)).record = .suspending sector target o p e) :
    PassesWrite addr word (statusReadEnds (devOf addr) w) s := by
  rcases hr with ⟨sector, target, data, hr⟩ | ⟨sector, target, e, hr⟩ | ⟨sector, target, o, p, e, hr⟩
  · refine PassesWrite.congr (g := fun t => if statusReady w then completeOperation (devOf addr) sector target w t
        else raiseStatusRead (devOf addr) sector t) ?_ (by simp only [statusReadEnds, hr])
      (by simp only [statusReadEnds, (keeping_record s true).trans hr])
    split
    · exact completeOperation_passes sector target w h
    · exact raiseStatusRead_passes sector h
  · refine PassesWrite.congr (g := fun t => if (e.map (·.disabled)).getD false ∧ statusSuspended w then
        arriveSuspended (devOf addr) sector target .part false e (disarm (devOf addr) t)
        else if statusReady w then completeOperation (devOf addr) sector target w t
        else raiseStatusRead (devOf addr) sector t) ?_ (by simp only [statusReadEnds, hr])
      (by simp only [statusReadEnds, (keeping_record s true).trans hr])
    split
    · have tracker : (disarm (devOf addr) s).tracker.get (devOf addr)
          = { s.tracker.get (devOf addr) with armed := false } := perDev_get_set _ _ _
      refine .after (arriveSuspended_passes sector target .part false e
        ⟨h.host, by rw [tracker]; exact h.kept, by rw [tracker]; exact h.run, h.service, h.bus⟩) ?_ rfl rfl
      simp only [disarm, State.keeping, modTracker, perDev_get_set, perDev_set_set]
    · split
      · exact completeOperation_passes sector target w h
      · exact raiseStatusRead_passes sector h
  · refine PassesWrite.congr (g := fun t => if statusSuspended w then arriveSuspended (devOf addr) sector target o p e t
        else if statusReady w then completeOperation (devOf addr) sector target w t
        else raiseStatusRead (devOf addr) sector t) ?_ (by simp only [statusReadEnds, hr])
      (by simp only [statusReadEnds, (keeping_record s true).trans hr])
    split
    · exact arriveSuspended_passes sector target o p e h
    · split
      · exact completeOperation_passes sector target w h
      · exact raiseStatusRead_passes sector h

/-! ### The cleanup writes -/

theorem arrayWriteEnds_status {sector : Nat} (s : State) (h : (s.tracker.get d).record = .status sector) :
    arrayWriteEnds d s = releaseKept d (setRecord d .array s) := by
  simp only [arrayWriteEnds, h]

theorem arrayWriteEnds_other (s : State) (h : ∀ sector, (s.tracker.get d).record ≠ .status sector) :
    arrayWriteEnds d s = releaseKept d s := by
  simp only [arrayWriteEnds]

theorem arm_record (s : State) : ((arm d s).tracker.get d).record = (s.tracker.get d).record := by
  simp only [arm, modTracker, perDev_get_set]

theorem resumeEnds_suspended {sector target : Nat} {o : Owner} {p : Bool} {e : Option EraseFields} (s : State)
    (h : (s.tracker.get d).record = .suspended sector target o p e) :
    resumeEnds .cleanup d s = releaseKept d (setRecord d (.busyErase sector target e) (arm d s)) := by
  have armed : ((arm d s).tracker.get d).record = .suspended sector target o p e := (arm_record s).trans h
  simp only [resumeEnds, armed]

theorem resumeEnds_other (s : State) (h : ∀ sector target o p e, (s.tracker.get d).record ≠ .suspended sector target o p e) :
    resumeEnds .cleanup d s = releaseKept d (arm d s) := by
  have armed : ∀ sector target o p e, ((arm d s).tracker.get d).record ≠ .suspended sector target o p e :=
    fun sector target o p e g => h sector target o p e ((arm_record s).symm.trans g)
  simp only [resumeEnds]

/-- R87, R89: a record moved as what it waited for ends has the write taken. -/
theorem releaseKept_moved_passes (h : AwaitsEnd addr s) (hr : (s.tracker.get (devOf addr)).reading = false)
    (hk : g (s.keeping addr word true) = (g s).keeping addr word true)
    (hg : ∃ r a l, g s = { s with
      tracker := s.tracker.set (devOf addr) { s.tracker.get (devOf addr) with record := r, armed := a }, readyLine := l }) :
    PassesWrite addr word (fun t => releaseKept (devOf addr) (g t)) s := by
  obtain ⟨r, a, l, hg⟩ := hg
  have tracker : (g s).tracker.get (devOf addr) = { s.tracker.get (devOf addr) with record := r, armed := a } := by
    rw [hg]
    exact perDev_get_set _ _ _
  have moved : AwaitsEnd addr (g s) := by
    refine ⟨?_, by rw [tracker]; exact h.kept, by rw [tracker]; exact h.run, ?_, ?_⟩
    · rw [hg]; exact h.host
    · rw [hg]; exact h.service
    · rw [hg]; exact h.bus
  exact .after (releaseKept_passes moved (by rw [tracker]; exact hr)) hk (by rw [hg]) (by rw [hg])

/-- R89: the end of an ARRAY write of the tracker service has the write taken. -/
theorem arrayWriteEnds_passes (h : AwaitsEnd addr s) (hr : (s.tracker.get (devOf addr)).reading = false) :
    PassesWrite addr word (arrayWriteEnds (devOf addr)) s := by
  by_cases hs : ∃ sector, (s.tracker.get (devOf addr)).record = .status sector
  · obtain ⟨sector, hs⟩ := hs
    refine (releaseKept_moved_passes h hr (g := setRecord (devOf addr) .array) ?_ ⟨.array, _, s.readyLine, rfl⟩).congr
      (arrayWriteEnds_status s hs) (arrayWriteEnds_status _ ((keeping_record s true).trans hs))
    simp only [setRecord, State.keeping, modTracker, perDev_get_set, perDev_set_set]
  · have other := not_exists.mp hs
    exact (releaseKept_passes h hr).congr (arrayWriteEnds_other s other)
      (arrayWriteEnds_other _ fun sector g => other sector ((keeping_record s true).symm.trans g))

/-- R89: the end of a cleanup RESUME has the write taken. -/
theorem resumeEnds_cleanup_passes (h : AwaitsEnd addr s) (hr : (s.tracker.get (devOf addr)).reading = false) :
    PassesWrite addr word (resumeEnds .cleanup (devOf addr)) s := by
  by_cases hs : ∃ sector target o p e, (s.tracker.get (devOf addr)).record = .suspended sector target o p e
  · obtain ⟨sector, target, o, p, e, hs⟩ := hs
    refine (releaseKept_moved_passes h hr (g := fun t => setRecord (devOf addr) (.busyErase sector target e)
        (arm (devOf addr) t)) ?_ ⟨.busyErase sector target e, true, s.readyLine.set (devOf addr) false, ?_⟩).congr
      (resumeEnds_suspended s hs) (resumeEnds_suspended _ ((keeping_record s true).trans hs))
    all_goals simp only [setRecord, arm, State.keeping, modTracker, perDev_get_set, perDev_set_set]
  · have other : ∀ sector target o p e, (s.tracker.get (devOf addr)).record ≠ .suspended sector target o p e :=
      fun sector target o p e g => hs ⟨sector, target, o, p, e, g⟩
    refine (releaseKept_moved_passes h hr (g := arm (devOf addr)) ?_
        ⟨_, true, s.readyLine.set (devOf addr) false, rfl⟩).congr (resumeEnds_other s other)
      (resumeEnds_other _ fun sector target o p e g => other sector target o p e ((keeping_record s true).symm.trans g))
    simp only [arm, State.keeping, modTracker, perDev_get_set, perDev_set_set]

/-! ### What the host face sees -/

/-- R87, R89, R145: the end of a tracker service transaction that a record waits for. -/
theorem exec_transactionEnds_passes (s : State) {addr : BitVec 25} {words : LineWords} {work : ServiceWork} {x : Nat}
    (hready : HostReady s) (hidle : LoaderIdle s) (hb : s.bus = some (.service (devOf addr.toNat) work x))
    (h : PassesWrite addr.toNat word (serviceEnds (devOf addr.toNat) work words) { s with bus := none })
    {t : State} (ht : exec (.memoryTransactionEnds words) s = .next t) :
    exec (.memoryTransactionEnds words) (s.keeping addr.toNat word true) = exec (.hostWrite addr word) t := by
  have ends : ∀ u : State, u.bus = s.bus →
      transactionEnds words u = serviceEnds (devOf addr.toNat) work words { u with bus := none } := by
    intro u hu
    simp only [transactionEnds, hu, hb]
  let done : State := serviceEnds (devOf addr.toNat) work words { s with bus := none }
  have idle : LoaderIdle done := (congrArg Loader.state h.loader).trans hidle
  have after : t = done := by
    have hnext : exec (.memoryTransactionEnds words) s = .next done := by
      show attended (transactionEnds words s) = _
      rw [ends s rfl, attended, loaderAttends_idle _ idle]
    exact (Host.Outcome.next.inj (ht.symm.trans hnext))
  have ready : HostReady t := by
    rw [after]
    show done.host.transaction = _ ∧ done.host.loadHold = _ ∧ done.host.resetAsserted = _
    rw [show done.host = s.host from h.host]
    exact hready
  rw [exec_hostWrite_ready t addr word ready (after ▸ idle)]
  have kept_idle : LoaderIdle (arriveWrite addr.toNat word t) :=
    (congrArg Loader.state (arriveWrite_frame t _ _).loader).trans (after ▸ idle)
  show attended (transactionEnds words (s.keeping addr.toNat word true)) = _
  rw [ends (s.keeping addr.toNat word true) rfl]
  have taken : serviceEnds (devOf addr.toNat) work words { s.keeping addr.toNat word true with bus := none }
      = arriveWrite addr.toNat word t := h.taken.trans (after ▸ rfl)
  rw [taken, attended, loaderAttends_idle _ kept_idle]

/-! ### The grant of a word that is neither SUSPEND nor RESUME -/

theorem serviceChoice_none (s : State) (first : Dev) (h : ∀ d, s.service.get d = none) : serviceChoice first s = none := by
  simp only [serviceChoice, serviceGrantable, h, Bool.false_eq_true, if_false]

theorem serviceNearer_none (s : State) (h : s.service.get d = none) : serviceNearer d s = s := by
  have same : s.service.set d none = s.service := by
    rw [← h]
    exact perDev_set_get _ _
  simp only [serviceNearer, h, Option.map_none, same]

theorem hostWordForwarded_plain (s : State) {w : Word} (h44 : w ≠ 0x3C44) (h45 : w ≠ 0x3C45) :
    hostWordForwarded d w s = s :=
  (if_neg h44).trans (if_neg h45)

/-- R148: with nothing asked for by the tracker the front transaction, such a word, is granted. -/
theorem grant_word (s : State) (first : Dev) {b : Nat} {w : Word} {rest : List HostTxn} (hb : s.bus = none)
    (hs : ∀ d, s.service.get d = none) (hp : s.hostPath = .write b w :: rest) (h44 : w ≠ 0x3C44) (h45 : w ≠ 0x3C45) :
    grant first s = retakeKept (devOf b) { s with bus := some (.host (.write b w)), hostPath := rest } := by
  let gone : State := { s with bus := some (.host (.write b w)), hostPath := rest }
  have choice := serviceChoice_none s first hs
  have nearer : serviceNearer (devOf b) gone = gone := serviceNearer_none gone (hs _)
  have silent : hostForwarded (.write b w) gone = gone := hostWordForwarded_plain gone h44 h45
  simp only [grant, hb, choice, hp, Option.isSome_none, Bool.false_eq_true, if_false]
  show retakeKept (devOf b) (hostForwarded (.write b w) (serviceNearer (devOf b) gone)) = _
  rw [nearer, silent]

/-- R131: a write kept for the path alone, its record settled, is taken as one that arrives then. -/
theorem retakeKept_keeping (s : State) (hk : (s.tracker.get (devOf addr)).kept = [])
    (hu : stateUnsettled s (devOf addr) = false) :
    retakeKept (devOf addr) (s.keeping addr word false) = arriveWrite addr word s := by
  rw [← releaseKept_keeping s addr word hk hu false]
  simp only [releaseKept, State.keeping, modTracker, perDev_get_set, perDev_set_set, List.map_cons, List.map_nil]

/-! ### STATUS, ARRAY and REFUSED -/

/-- Settles O36. -/
theorem writesInArrayAndStatus : Obligations.WritesInArrayAndStatus := by
  intro s addr word hready hidle a d forwarded
  have chained : ∀ (r : Record) (w : Word), forwarded r w = raiseHost (.write a w) (setRecord d r s) := fun r w => rfl
  refine ⟨fun hset hpath => ⟨fun hr => ?_, fun sector hr => ?_, fun hr h1 h2 h3 h4 h5 => ?_⟩, fun hk => ⟨fun h => ?_, fun hu hpath hr hw => ?_, ?_, ?_⟩⟩
  · have acts : ∀ w, exec (.hostWrite addr w) s = .next (applyAction d a w (arrayAction a w) s) := by
      intro w
      have ha := writeAction_array s (addr := a) (word := w) hr
      rcases hr with hr | ⟨x, hr⟩ <;> exact exec_hostWrite_acts hready hidle hset hr rfl ha (.inr hpath)
    exact ⟨acts _, acts _, acts _, acts _, acts _⟩
  · have acts : ∀ w, exec (.hostWrite addr w) s = .next (applyAction d a w (statusAction sector a w) s) :=
      fun w => exec_hostWrite_acts hready hidle hset hr rfl (writeAction_status s hr) (.inr hpath)
    exact ⟨acts _, acts _, acts _, acts _, acts _⟩
  · have hk := writeKind_other h1 h2 h3 h4 h5
    have refuses : ∀ {r : Record}, (s.tracker.get d).record = r → r.holdsNothing = true → writeAction s d a word = .refuse →
        exec (.hostWrite addr word) s = .next (applyAction d a word .refuse s) :=
      fun hr hh ha => exec_hostWrite_acts hready hidle hset hr hh ha (.inl rfl)
    rcases hr with hr | ⟨sector, hr | hr⟩
    · exact refuses hr rfl ((writeAction_array s (.inl hr)).trans (arrayAction_other hk))
    · exact refuses hr rfl ((writeAction_status s hr).trans (statusAction_other hk))
    · exact refuses hr rfl ((writeAction_array s (.inr ⟨_, hr⟩)).trans (arrayAction_other hk))
  · have hu := stateUnsettled_of s h
    rw [exec_hostWrite_ready s addr word hready hidle, arriveWrite_keeps s hk (.inl hu), hu]
  · have raises : (writeAction s d a word).raises = true := by
      rw [writeAction_array s (.inl hr)]
      rcases hw with rfl | rfl | rfl <;> rfl
    have blocks : pathBlocks s d a word = true := by simp [pathBlocks, raises, hpath]
    rw [exec_hostWrite_ready s addr word hready hidle, arriveWrite_keeps s hk (.inr blocks), hu]
  · intro t words work x hb hwork hserv hrun hreading ht
    have awaits : AwaitsEnd a { s with bus := none } := ⟨hready.1, hk, hrun, hserv, rfl⟩
    refine exec_transactionEnds_passes s hready hidle hb ?_ ht
    rcases hwork with ⟨rfl, hrec⟩ | ⟨c, rfl⟩ | rfl
    · refine statusReadEnds_passes (s := { s with bus := none }) (addr := a) words[0] awaits ?_
      revert hrec
      cases hr : (s.tracker.get d).record with
      | busyProgram sector target data => exact fun _ => .inl ⟨_, _, _, rfl⟩
      | busyErase sector target e => exact fun _ => .inr (.inl ⟨_, _, _, rfl⟩)
      | suspending sector target o p e => exact fun _ => .inr (.inr ⟨_, _, _, _, _, rfl⟩)
      | _ => exact False.elim
    · exact arrayWriteEnds_passes awaits (Bool.eq_false_iff.mpr fun h => nomatch hreading.mp h)
    · exact resumeEnds_cleanup_passes awaits (Bool.eq_false_iff.mpr fun h => nomatch hreading.mp h)
  · intro b w rest first hb hserv hpath hdev h44 h45 hu
    let gone : State := { s with bus := some (.host (.write b w)), hostPath := rest }
    have unsettled : stateUnsettled gone d = false := by
      obtain ⟨hr, hrun⟩ := Bool.or_eq_false_iff.mp (Bool.or_eq_false_iff.mp hu).1
      refine stateUnsettled_false gone hr (Option.not_isSome_iff_eq_none.mp (by rw [hrun]; exact Bool.false_ne_true)) ?_ ?_
      · intro q hq
        rw [show gone.service.get d = none from hserv d] at hq
        exact nomatch hq
      · exact fun e x y g => nomatch g
    have idle : LoaderIdle gone := hidle
    rw [exec_hostWrite_ready gone addr word hready idle]
    have granted : grant first (s.keeping a word false) = arriveWrite a word gone := by
      rw [grant_word (s.keeping a word false) first hb hserv hpath h44 h45, hdev]
      exact retakeKept_keeping gone hk unsettled
    show attended (grant first (s.keeping a word false)) = _
    rw [granted, attended, loaderAttends_idle]
    exact (congrArg Loader.state (arriveWrite_frame gone _ _).loader).trans idle

end Sys2Proof.Machine
end

section
/-! PROOFS. Host reset as one event: the transaction, the commit, the records' cleanup (R44, R47, R89, R128, R140, R141). -/

namespace Sys2Proof.Machine

set_option Elab.async false

variable (s : State)

/-! ### The end of the transaction -/

/-- R140: no kept write keeps the host waiting. -/
def Tracker.unwaited (t : Tracker) : Tracker := { t with kept := t.kept.map fun k => { k with hostWaits := false } }

/-- R141: what is left of a device's request when the read in progress is dropped: the SUSPEND raised for it is withdrawn. -/
def leftService (d : Dev) : Option ServiceReq :=
  match s.service.get d, s.host.transaction with
  | some q, .read r => if q.work = .suspend ∧ devOf r.addr = d then none else some q
  | q, _ => q

/-- R141: the store access of a REPLACE burst that is dropped, one already waiting standing for it. -/
def droppedAccess (r : ReadRecord) : Option Nat :=
  match r.stage, r.cls with
  | .store, .hit _ (.replace slot _ _) k =>
    if s.host.dropped.isSome then s.host.dropped
    else some (storeAddr (slot + k) (offsetOf r.addr + s.host.dataOut.length))
  | _, _ => s.host.dropped

theorem droppedAccess_other {r : ReadRecord} (h : r.stage ≠ .store) : droppedAccess s r = s.host.dropped := by
  simp only [droppedAccess]
  split
  · exact absurd ‹_› h
  · rfl

theorem droppedAccess_store {r : ReadRecord} {p slot k : Nat} {follow : Bool} {check : Option Word} (h : r.stage = .store)
    (hc : r.cls = .hit p (.replace slot follow check) k) (hd : s.host.dropped = none) :
    droppedAccess s r = some ((slot + k) * 16 + (r.addr % 16 + s.host.dataOut.length)) := by
  simp only [droppedAccess, h, hc, hd]
  rfl

theorem dropRead_eq (r : ReadRecord) : dropRead r s = { s with
    host := { s.host with dropped := droppedAccess s r }
    hostPath := s.hostPath.map HostTxn.discarded
    bus := s.bus.map BusTxn.discarded
    service := (withdrawSuspend (devOf r.addr) s).service } := by
  rw [dropRead, withdrawSuspend_eq]
  rfl

theorem endTransaction_read {r : ReadRecord} (h : s.host.transaction = .read r) : endTransaction s = { s with
    host := { s.host with transaction := .none, dropped := droppedAccess s r }
    hostPath := s.hostPath.map HostTxn.discarded
    bus := s.bus.map BusTxn.discarded
    service := (withdrawSuspend (devOf r.addr) s).service
    tracker := { dev0 := s.tracker.dev0.unwaited, dev1 := s.tracker.dev1.unwaited } } := by
  simp only [endTransaction, h, dropRead_eq]
  rfl

theorem endTransaction_other (h : ∀ r, s.host.transaction ≠ .read r) : endTransaction s = { s with
    host := { s.host with transaction := .none }
    tracker := { dev0 := s.tracker.dev0.unwaited, dev1 := s.tracker.dev1.unwaited } } := by
  simp only [endTransaction]
  rfl

theorem dev_discarded (t : HostTxn) : t.discarded.dev = t.dev := by cases t <;> rfl

/-- R141: a dropped read keeps its place. -/
theorem countP_discarded (l : List HostTxn) (d : Dev) :
    (l.map HostTxn.discarded).countP (fun t => t.dev == d) = l.countP fun t => t.dev == d := by
  rw [List.countP_map]
  exact congrArg (fun p => List.countP p l) (funext fun t => congrArg (· == d) (dev_discarded t))

theorem discarded_service {b : Option BusTxn} {e : Dev} {w : ServiceWork} {a : Nat} :
    b.map BusTxn.discarded = some (.service e w a) ↔ b = some (.service e w a) := by
  rcases b with _ | t
  · exact Iff.rfl
  · cases t <;> simp [BusTxn.discarded]

/-- What the end of a transaction leaves of a record and of its requests, for its cleanup. -/
structure EndsFor (s u : State) : Prop where
  tracker : ∀ d, u.tracker.get d = (s.tracker.get d).unwaited
  service : ∀ d, u.service.get d = leftService s d
  controller : u.controller = s.controller
  bus : ∀ e w a, u.bus = some (.service e w a) ↔ s.bus = some (.service e w a)
  waiting : ∀ d, hostWaiting u d = hostWaiting s d

theorem withdrawSuspend_left {r : ReadRecord} (h : s.host.transaction = .read r) (d : Dev) :
    (withdrawSuspend (devOf r.addr) s).service.get d = leftService s d := by
  rw [withdrawSuspend_eq, leftService, h]
  by_cases hd : devOf r.addr = d
  · subst hd
    rcases hq : s.service.get (devOf r.addr) with _ | q
    · exact hq
    · by_cases hw : q.work = .suspend
      · simp [hw]
      · simp [hw, hq]
  · have other : d ≠ devOf r.addr := fun g => hd g.symm
    rcases s.service.get (devOf r.addr) with _ | q
    · rcases s.service.get d with _ | x <;> simp [hd]
    · by_cases hw : q.work = .suspend
      · rcases hx : s.service.get d with _ | x <;> simp [hd, hw, perDev_get_set_other _ _ _ other, hx]
      · rcases hx : s.service.get d with _ | x <;> simp [hd, hw, hx]

theorem endTransaction_ends : EndsFor s (endTransaction s) := by
  by_cases h : ∃ r, s.host.transaction = .read r
  · obtain ⟨r, h⟩ := h
    rw [endTransaction_read s h]
    exact ⟨fun d => by cases d <;> rfl, withdrawSuspend_left s h, rfl, fun e w a => discarded_service,
      countP_discarded s.hostPath⟩
  · have other := not_exists.mp h
    rw [endTransaction_other s other]
    refine ⟨fun d => by cases d <;> rfl, fun d => ?_, rfl, fun e w a => Iff.rfl, fun d => rfl⟩
    rw [leftService]
    rcases s.service.get d with _ | q
    · rfl
    · split
      · exact absurd ‹_› (other _)
      · rfl

/-- R140: the end of a transaction touches the host face, the list, the bus, the requests and the kept writes alone. -/
theorem endTransaction_frame : ∃ dropped path bus service tracker, endTransaction s = { s with
    host := { s.host with transaction := .none, dropped := dropped }
    hostPath := path
    bus := bus
    service := service
    tracker := tracker } := by
  by_cases h : ∃ r, s.host.transaction = .read r
  · obtain ⟨r, h⟩ := h
    exact ⟨_, _, _, _, _, endTransaction_read s h⟩
  · exact ⟨_, _, _, _, _, endTransaction_other s (not_exists.mp h)⟩

/-! ### The commit in flight -/

theorem commitMeetsReset_idle (h : s.commit = .idle) : commitMeetsReset s = s := by
  simp only [commitMeetsReset, h]

/-- R44: a commit of origin MANAGEMENT is cancelled. -/
theorem commitMeetsReset_management {f : InFlight} (h : s.commit.inFlight = some f) (ho : f.origin = .management) :
    commitMeetsReset s = post { kind := .commitCancelled, device := none, address := none, entry := none, detail := 2 }
      { s with commit := .idle } := by
  rcases cancelCommitWith_cases s cancelHostReset with ⟨hc, -⟩ | ⟨-, e⟩
  · rw [hc] at h
    exact nomatch h
  · refine Eq.trans ?_ e
    rcases hc : s.commit with _ | ⟨g, c⟩ | g | ⟨g, since⟩ <;> rw [hc] at h <;> cases h <;>
      simp only [commitMeetsReset, hc, ho, if_true]

/-- R47: a loader's commit that waits for no completion runs on. -/
theorem commitMeetsReset_loader {f : InFlight} (h : s.commit.inFlight = some f) (ho : f.origin = .loader)
    (hb : s.commit ≠ .pendingBoundary f) : commitMeetsReset s = s := by
  have other : f.origin ≠ .management := by rw [ho]; exact nofun
  rcases hc : s.commit with _ | ⟨g, c⟩ | g | ⟨g, since⟩ <;> rw [hc] at h <;> cases h
  · simp only [commitMeetsReset, hc, other, if_false]
  · exact absurd hc hb
  · simp only [commitMeetsReset, hc, other, if_false]

/-- R47, R177: one that waited for the dropped read switches, and its load ends. -/
theorem commitMeetsReset_boundary {f : InFlight} (h : s.commit = .pendingBoundary f) (ho : f.origin = .loader) :
    commitMeetsReset s = loaderFollows s.switched := by
  have other : f.origin ≠ .management := by rw [ho]; exact nofun
  simp only [commitMeetsReset, h, other, if_false, switchBanks_eq]

/-- R44, R47, R140: what a host reset does to the commit in flight touches the commit unit, the loader, load hold and the
notices alone. -/
theorem commitMeetsReset_frame : ∃ commit active generation loader loadHold notices, commitMeetsReset s = { s with
    commit := commit
    active := active
    generation := generation
    loader := loader
    host := { s.host with loadHold := loadHold }
    notices := notices } := by
  rcases hc : s.commit.inFlight with _ | f
  · refine ⟨_, _, _, _, _, _, commitMeetsReset_idle s ?_⟩
    rcases hs : s.commit with _ | ⟨g, c⟩ | g | ⟨g, since⟩ <;> rw [hs] at hc
    all_goals exact nomatch hc
  · cases ho : f.origin with
    | management => exact ⟨_, _, _, _, _, _, commitMeetsReset_management s hc ho⟩
    | loader =>
      by_cases hb : s.commit = .pendingBoundary f
      · rw [commitMeetsReset_boundary s hb ho]
        rcases loaderFollows_cases s.switched with ⟨origin, n, -, -, e⟩ | e <;> exact ⟨_, _, _, _, _, _, e⟩
      · exact ⟨_, _, _, _, _, _, commitMeetsReset_loader s hc ho hb⟩

/-! ### The cleanup of both records -/

/-- R89, R128: both records cleaned up. -/
def State.cleaned (s : State) : State := { s with
  tracker := {
    dev0 := { s.tracker.dev0 with record := s.tracker.dev0.record.cleaned }
    dev1 := { s.tracker.dev1 with record := s.tracker.dev1.record.cleaned } }
  service := { dev0 := cleanedService s .dev0, dev1 := cleanedService s .dev1 }
  controller := { dev0 := cleanedController s .dev0, dev1 := cleanedController s .dev1 } }

theorem cleanupRecord_both : cleanupRecord .dev1 (cleanupRecord .dev0 s) = s.cleaned := by
  rw [cleanupRecord_eq, cleanupRecord_eq]
  rfl

theorem cleaned_tracker (d : Dev) :
    s.cleaned.tracker.get d = { s.tracker.get d with record := (s.tracker.get d).record.cleaned } := by cases d <;> rfl

theorem cleaned_service (d : Dev) : s.cleaned.service.get d = cleanedService s d := by cases d <;> rfl

theorem cleaned_controller (d : Dev) : s.cleaned.controller.get d = cleanedController s d := by cases d <;> rfl

theorem cleanupOnBus_array (d : Dev) (c : Bool) : cleanupOnBus s d (.arrayWrite c) = true
    ↔ ∃ c a, s.bus = some (.service d (.arrayWrite c) a) := by
  cases hb : s.bus with
  | none => simp [cleanupOnBus, hb]
  | some t =>
    cases t with
    | service e w a => cases w <;> simp [cleanupOnBus, hb]
    | _ => simp [cleanupOnBus, hb]

theorem cleanupOnBus_resume (d : Dev) (c : ResumeCause) : cleanupOnBus s d (.resume c) = true
    ↔ ∃ a, s.bus = some (.service d (.resume .cleanup) a) := by
  cases hb : s.bus with
  | none => simp [cleanupOnBus, hb]
  | some t =>
    cases t with
    | service e w a =>
      cases w with
      | resume cause => cases cause <;> simp [cleanupOnBus, hb]
      | _ => simp [cleanupOnBus, hb]
    | _ => simp [cleanupOnBus, hb]

/-- R89: a record in STATUS has its ARRAY write raised, but for one of that word on the bus. -/
theorem cleanedService_status {d : Dev} {sector : Nat} (h : (s.tracker.get d).record = .status sector) :
    ((∀ c a, s.bus ≠ some (.service d (.arrayWrite c) a)) → cleanedService s d
      = some { work := .arrayWrite true, addr := sectorBase sector, behind := hostWaiting s d })
    ∧ ((∃ c a, s.bus = some (.service d (.arrayWrite c) a)) → cleanedService s d = s.service.get d) := by
  have same : cleanedService s d = if cleanupOnBus s d (.arrayWrite true) then s.service.get d
      else some { work := .arrayWrite true, addr := sectorBase sector, behind := hostWaiting s d } := by
    simp only [cleanedService, h]
  rw [same]
  exact ⟨fun g => if_neg fun hb => ((cleanupOnBus_array s d true).mp hb).elim fun c hc => hc.elim fun a ha => g c a ha,
    fun g => if_pos ((cleanupOnBus_array s d true).mpr g)⟩

/-- R89: a suspended record has its RESUME raised, but for one of cleanup's on the bus. -/
theorem cleanedService_suspended {d : Dev} {sector target : Nat} {o : Owner} {p : Bool} {e : Option EraseFields}
    (h : (s.tracker.get d).record = .suspended sector target o p e) :
    ((∀ a, s.bus ≠ some (.service d (.resume .cleanup) a)) → cleanedService s d
      = some { work := .resume .cleanup, addr := sectorBase sector, behind := hostWaiting s d })
    ∧ ((∃ a, s.bus = some (.service d (.resume .cleanup) a)) → cleanedService s d = s.service.get d) := by
  have same : cleanedService s d = if cleanupOnBus s d (.resume .cleanup) then s.service.get d
      else some { work := .resume .cleanup, addr := sectorBase sector, behind := hostWaiting s d } := by
    simp only [cleanedService, h]
  rw [same]
  exact ⟨fun g => if_neg fun hb => ((cleanupOnBus_resume s d .cleanup).mp hb).elim g,
    fun g => if_pos ((cleanupOnBus_resume s d .cleanup).mpr g)⟩

/-- R180: a write that stands for device 0's record, and no refusal, leaves the loader nothing to do. -/
theorem loaderAttends_stands (hr : ∀ sector, s.tracker.dev0.record ≠ .refused sector)
    (hs : ∀ sector, s.tracker.dev0.record = .status sector → writeStands s .dev0 = true)
    (hp : ∀ sector target o p e, s.tracker.dev0.record = .suspended sector target o p e → writeStands s .dev0 = true) :
    loaderAttends s = s := by
  simp only [loaderAttends]
  split
  · split
    · exact if_neg fun h => h.2 (hs _ ‹_›)
    · exact absurd ‹_› (hr _)
    · exact if_neg (not_not_intro (hp _ _ _ _ _ ‹_›))
    · rfl
  · rfl

theorem writeStands_bus {d : Dev} {w : ServiceWork} {a : Nat} (hb : s.bus = some (.service d w a))
    (hw : (∃ c, w = .arrayWrite c) ∨ ∃ c, w = .resume c) : writeStands s d = true := by
  rcases hw with ⟨c, rfl⟩ | ⟨c, rfl⟩ <;> simp [writeStands, hb]

/-- R89, R180: a cleaned record leaves the loader nothing to do: its cleanup write stands. -/
theorem loaderAttends_cleaned (n : NoticeUnit) :
    loaderAttends { s.cleaned with notices := n } = { s.cleaned with notices := n } := by
  have stands : ∀ work, cleanupOnBus s .dev0 work = true ∨ (∃ q, s.cleaned.service.dev0 = some q) →
      writeStands { s.cleaned with notices := n } .dev0 = true := by
    rintro work (h | ⟨q, h⟩)
    · cases work with
      | arrayWrite c =>
        obtain ⟨c, a, hb⟩ := (cleanupOnBus_array s .dev0 c).mp h
        exact writeStands_bus { s.cleaned with notices := n } hb (.inl ⟨_, rfl⟩)
      | resume c =>
        obtain ⟨a, hb⟩ := (cleanupOnBus_resume s .dev0 c).mp h
        exact writeStands_bus { s.cleaned with notices := n } hb (.inr ⟨_, rfl⟩)
      | _ => exact absurd h Bool.false_ne_true
    · exact writeStands_service { s.cleaned with notices := n } (d := .dev0) h
  cases hr : s.tracker.dev0.record with
  | status sector =>
    have held : s.cleaned.tracker.dev0.record = .status sector := congrArg Record.cleaned hr
    refine loaderAttends_stands _ (fun x g => nomatch held.symm.trans g) (fun x _ => stands (.arrayWrite true) ?_)
      (fun _ _ _ _ _ g => nomatch held.symm.trans g)
    obtain ⟨raised, -⟩ := cleanedService_status s (d := .dev0) hr
    by_cases hb : cleanupOnBus s .dev0 (.arrayWrite true) = true
    · exact .inl hb
    · exact .inr ⟨_, raised fun c a g => hb ((cleanupOnBus_array s .dev0 true).mpr ⟨c, a, g⟩)⟩
  | suspended sector target o p e =>
    have held : s.cleaned.tracker.dev0.record = .suspended sector target o p e := congrArg Record.cleaned hr
    refine loaderAttends_stands _ (fun x g => nomatch held.symm.trans g) (fun _ g => nomatch held.symm.trans g)
      (fun _ _ _ _ _ _ => stands (.resume .cleanup) ?_)
    obtain ⟨raised, -⟩ := cleanedService_suspended s (d := .dev0) hr
    by_cases hb : cleanupOnBus s .dev0 (.resume .cleanup) = true
    · exact .inl hb
    · exact .inr ⟨_, raised fun a g => hb ((cleanupOnBus_resume s .dev0 .cleanup).mpr ⟨a, g⟩)⟩
  | _ =>
    have held := congrArg Record.cleaned hr
    exact loaderAttends_stands _ (fun _ g => nomatch (show s.cleaned.tracker.dev0.record = _ from held).symm.trans g)
      (fun _ g => nomatch (show s.cleaned.tracker.dev0.record = _ from held).symm.trans g)
      (fun _ _ _ _ _ g => nomatch (show s.cleaned.tracker.dev0.record = _ from held).symm.trans g)

/-! ### The event -/

/-- R140: the state at the assertion, before the records are cleaned up. -/
def State.resetting (s : State) : State :=
  commitMeetsReset (endTransaction { s with host := { s.host with resetAsserted := true } })

/-- R140: the state after the event. -/
def State.afterReset (s : State) : State := { s.resetting.cleaned with
  notices := s.resetting.notices.post (timeBase s.resetting)
    { kind := .hostReset, device := none, address := none, entry := none, detail := 0 } }

theorem exec_hostReset (h : s.host.resetAsserted = false) : exec .hostReset s = .next s.afterReset := by
  have resets : hostResets s = s.afterReset := by
    simp only [hostResets, cleanupRecord_both]
    rfl
  refine (if_neg (by simp [h])).trans ?_
  rw [attended, resets, State.afterReset, loaderAttends_cleaned]

theorem resetting_ends : EndsFor s s.resetting := by
  obtain ⟨commit, active, generation, loader, hold, notices, e⟩ :=
    commitMeetsReset_frame (endTransaction { s with host := { s.host with resetAsserted := true } })
  have ends := endTransaction_ends { s with host := { s.host with resetAsserted := true } }
  rw [State.resetting, e]
  exact ⟨ends.tracker, ends.service, ends.controller, ends.bus, ends.waiting⟩

/-- What the event leaves of the records and their requests. -/
theorem reset_tracker (d : Dev) :
    s.afterReset.tracker.get d = { (s.tracker.get d).unwaited with record := (s.tracker.get d).record.cleaned } :=
  (cleaned_tracker s.resetting d).trans (by rw [(resetting_ends s).tracker] <;> rfl)

theorem reset_record (d : Dev) : (s.afterReset.tracker.get d).record = (s.tracker.get d).record.cleaned := by
  rw [reset_tracker]

/-- R89: the requests of a record in no state that needs a cleanup write. -/
theorem reset_service_left {d : Dev} (h : ∀ sector, (s.tracker.get d).record ≠ .status sector)
    (g : ∀ sector target o p e, (s.tracker.get d).record ≠ .suspended sector target o p e) :
    s.afterReset.service.get d = leftService s d := by
  have same : (s.resetting.tracker.get d).record = (s.tracker.get d).record := by rw [(resetting_ends s).tracker]; rfl
  refine (cleaned_service s.resetting d).trans (Eq.trans ?_ ((resetting_ends s).service d))
  simp only [cleanedService]
  split
  · exact absurd (same.symm.trans ‹_›) (h _)
  · exact absurd (same.symm.trans ‹_›) (g _ _ _ _ _)
  · rfl

theorem reset_service_status {d : Dev} {sector : Nat} (h : (s.tracker.get d).record = .status sector) :
    ((∀ c a, s.bus ≠ some (.service d (.arrayWrite c) a)) → s.afterReset.service.get d
      = some { work := .arrayWrite true, addr := sectorBase sector, behind := hostWaiting s d })
    ∧ ((∃ c a, s.bus = some (.service d (.arrayWrite c) a)) → s.afterReset.service.get d = leftService s d) := by
  have ends := resetting_ends s
  have same : (s.resetting.tracker.get d).record = .status sector := by rw [ends.tracker]; exact h
  obtain ⟨raised, stood⟩ := cleanedService_status s.resetting same
  rw [ends.waiting] at raised
  rw [ends.service] at stood
  rw [show s.afterReset.service.get d = _ from cleaned_service s.resetting d]
  exact ⟨fun g => raised fun c a hb => g c a ((ends.bus _ _ _).mp hb),
    fun ⟨c, a, g⟩ => stood ⟨c, a, (ends.bus _ _ _).mpr g⟩⟩

theorem reset_service_suspended {d : Dev} {sector target : Nat} {o : Owner} {p : Bool} {e : Option EraseFields}
    (h : (s.tracker.get d).record = .suspended sector target o p e) :
    ((∀ a, s.bus ≠ some (.service d (.resume .cleanup) a)) → s.afterReset.service.get d
      = some { work := .resume .cleanup, addr := sectorBase sector, behind := hostWaiting s d })
    ∧ ((∃ a, s.bus = some (.service d (.resume .cleanup) a)) → s.afterReset.service.get d = leftService s d) := by
  have ends := resetting_ends s
  have same : (s.resetting.tracker.get d).record = .suspended sector target o p e := by rw [ends.tracker]; exact h
  obtain ⟨raised, stood⟩ := cleanedService_suspended s.resetting same
  rw [ends.waiting] at raised
  rw [ends.service] at stood
  rw [show s.afterReset.service.get d = _ from cleaned_service s.resetting d]
  exact ⟨fun g => raised fun a hb => g a ((ends.bus _ _ _).mp hb), fun ⟨a, g⟩ => stood ⟨a, (ends.bus _ _ _).mpr g⟩⟩

theorem reset_controller (d : Dev) : s.afterReset.controller.get d
    = match (s.tracker.get d).record with
      | .suspended .. => { s.controller.get d with idleTimer := none, holdTimer := none, call := none }
      | _ => s.controller.get d := by
  have ends := resetting_ends s
  have same : (s.resetting.tracker.get d).record = (s.tracker.get d).record := by rw [ends.tracker]; rfl
  refine (cleaned_controller s.resetting d).trans ?_
  rw [cleanedController, same, ends.controller] <;> rfl

/-- The event touches the commit unit, the face, the path and the records alone. -/
theorem resetting_frame : s.resetting = { s with
    commit := s.resetting.commit
    active := s.resetting.active
    generation := s.resetting.generation
    loader := s.resetting.loader
    notices := s.resetting.notices
    host := { (endTransaction { s with host := { s.host with resetAsserted := true } }).host with
      loadHold := s.resetting.host.loadHold }
    hostPath := (endTransaction { s with host := { s.host with resetAsserted := true } }).hostPath
    bus := (endTransaction { s with host := { s.host with resetAsserted := true } }).bus
    service := s.resetting.service
    tracker := s.resetting.tracker } := by
  obtain ⟨commit, active, generation, loader, hold, notices, e⟩ :=
    commitMeetsReset_frame (endTransaction { s with host := { s.host with resetAsserted := true } })
  obtain ⟨dropped, path, bus, service, tracker, e'⟩ :=
    endTransaction_frame { s with host := { s.host with resetAsserted := true } }
  rw [State.resetting, e, e']

theorem afterReset_keeps : s.afterReset.staged = s.staged ∧ s.afterReset.store = s.store ∧ s.afterReset.ptr = s.ptr
    ∧ s.afterReset.fill = s.fill ∧ s.afterReset.follow = s.follow ∧ s.afterReset.locks = s.locks
    ∧ s.afterReset.policy = s.policy ∧ s.afterReset.readyLine = s.readyLine ∧ s.afterReset.link = s.link
    ∧ s.afterReset.clock = s.clock := by
  show s.resetting.staged = s.staged ∧ s.resetting.store = s.store ∧ s.resetting.ptr = s.ptr
    ∧ s.resetting.fill = s.fill ∧ s.resetting.follow = s.follow ∧ s.resetting.locks = s.locks
    ∧ s.resetting.policy = s.policy ∧ s.resetting.readyLine = s.readyLine ∧ s.resetting.link = s.link
    ∧ s.resetting.clock = s.clock
  rw [resetting_frame s]
  exact ⟨rfl, rfl, rfl, rfl, rfl, rfl, rfl, rfl, rfl, rfl⟩

/-- Settles O31. -/
theorem hostResetIsOneEvent : Obligations.HostResetIsOneEvent := by
  refine fun s => ⟨fun h => if_pos h, fun h => ?_⟩
  intro left written stopped
  let s0 : State := { s with host := { s.host with resetAsserted := true } }
  have frame := resetting_frame s
  have host : s.afterReset.host = { (endTransaction s0).host with loadHold := s.resetting.host.loadHold } :=
    congrArg State.host frame
  have path : s.afterReset.hostPath = (endTransaction s0).hostPath := by
    have same := congrArg State.hostPath frame
    exact same
  have bus : s.afterReset.bus = (endTransaction s0).bus := by
    have same := congrArg State.bus frame
    exact same
  obtain ⟨gone, _, _, _, _, ended⟩ := endTransaction_frame s0
  have face : (endTransaction s0).host = { s0.host with transaction := .none, dropped := gone } :=
    congrArg State.host ended
  refine ⟨_, exec_hostReset s h, ?_, ?_, ?_, fun hnr => ?_, fun r hr => ?_, fun d => ?_, fun d hns => ?_, fun d => ?_, ?_,
    afterReset_keeps s⟩
  · rw [host, face]
  · rw [host, face]
  · rw [host, face]
  · have other := endTransaction_other s0 hnr
    refine ⟨path.trans ?_, bus.trans ?_, ?_⟩
    · rw [other]
    · rw [other]
    · rw [host, other]
  · have dropped := endTransaction_read s0 hr
    refine ⟨path.trans ?_, bus.trans ?_, fun hs => ?_, fun p slot follow check k hs hc hd => ?_⟩
    · rw [dropped]
    · rw [dropped]
    · rw [host, dropped]
      show droppedAccess s0 r = s.host.dropped
      exact droppedAccess_other s0 hs
    · rw [host, dropped]
      show droppedAccess s0 r = _
      exact droppedAccess_store s0 hs hc hd
  · have record := reset_record s d
    have plain := reset_service_left s (d := d)
    cases hr : (s.tracker.get d).record with
    | status sector =>
      rw [hr] at record
      obtain ⟨raised, stood⟩ := reset_service_status s hr
      exact ⟨record, raised, fun c a g => stood ⟨c, a, g⟩⟩
    | suspended sector target o p e =>
      rw [hr] at record
      obtain ⟨raised, stood⟩ := reset_service_suspended s hr
      refine ⟨record, raised, fun a g => stood ⟨a, g⟩, ?_⟩
      rw [reset_controller, hr]
    | _ =>
      rw [hr] at record plain
      exact ⟨record, plain nofun nofun⟩
  · rw [reset_controller]
    split
    · exact absurd ‹_› (hns _ _ _ _ _)
    · rfl
  · rw [reset_tracker]
    rfl
  · intro ends
    have ends_of : ∀ {u X : State}, commitMeetsReset (endTransaction s0) = X → X.commit = u.commit → X.active = u.active →
        X.generation = u.generation → X.loader = u.loader → X.host.loadHold = u.host.loadHold → X.notices = u.notices →
        ends u := by
      intro u X hX h1 h2 h3 h4 h5 h6
      have resetting : s.resetting = X := hX
      have time : timeBase s.resetting = timeBase s := by
        obtain ⟨-, -, -, -, -, -, -, -, -, clock⟩ := afterReset_keeps s
        exact congrArg (BitVec.ofNat 32) clock
      refine ⟨?_, ?_, ?_, ?_, ?_, ?_⟩
      · exact (congrArg State.commit resetting).trans h1
      · exact (congrArg State.active resetting).trans h2
      · exact (congrArg State.generation resetting).trans h3
      · exact (congrArg State.loader resetting).trans h4
      · exact (congrArg (fun x => x.host.loadHold) resetting).trans h5
      · show s.resetting.notices.post (timeBase s.resetting) _ = _
        rw [resetting, h6, ← resetting, time]
    have commit : (endTransaction s0).commit = s.commit := by rw [ended]
    have loader : (endTransaction s0).loader = s.loader := by rw [ended]
    refine ⟨fun hc => ?_, fun f hc ho => ?_, fun f hc ho => ⟨fun hb => ?_, fun hb => ⟨fun hl => ?_, fun origin n hl => ?_⟩⟩⟩
    · refine ends_of (commitMeetsReset_idle _ (commit.trans hc)) ?_ ?_ ?_ ?_ ?_ ?_ <;> rw [ended]
    · refine ends_of (commitMeetsReset_management _ ((congrArg Commit.inFlight commit).trans hc) ho) ?_ ?_ ?_ ?_ ?_ ?_ <;>
        rw [ended] <;> rfl
    · refine ends_of (commitMeetsReset_loader _ ((congrArg Commit.inFlight commit).trans hc) ho
        (fun g => hb (commit.symm.trans g))) ?_ ?_ ?_ ?_ ?_ ?_ <;> rw [ended]
    · have boundary := commitMeetsReset_boundary _ (commit.trans hb) ho
      rw [loaderFollows_other (endTransaction s0).switched fun origin n g => hl origin n ((congrArg Loader.state loader).symm.trans g)] at boundary
      refine ends_of boundary ?_ ?_ ?_ ?_ ?_ ?_ <;> rw [ended] <;> rfl
    · have boundary := commitMeetsReset_boundary _ (commit.trans hb) ho
      rw [loaderFollows_committing (endTransaction s0).switched origin n ((congrArg Loader.state loader).trans hl) rfl] at boundary
      refine ends_of boundary ?_ ?_ ?_ ?_ ?_ ?_ <;> rw [ended] <;> rfl

end Sys2Proof.Machine
end

section
/-! PROOFS. The ready line: rises that end a probe or an operation, and falls that drop the reading (R85, R86, R88, R121). -/

namespace Sys2Proof.Machine

set_option Elab.async false

variable (s : State) (d : Dev)

/-! ### What the loader leaves alone -/

theorem attended_quiet {t : State} (h : LoaderQuiet t ∨ t.tracker.dev0.record = .array) : attended t = .next t :=
  congrArg Host.Outcome.next (loaderAttends_quiet t h)

theorem attended_passive {t : State} (h : LoaderPassive t) : attended t = .next t :=
  congrArg Host.Outcome.next (loaderAttends_passive t h)

theorem attended_idle {t : State} (h : LoaderIdle t) : attended t = .next t :=
  congrArg Host.Outcome.next (loaderAttends_idle t h)

/-! ### The line itself -/

/-- R68: the device's line as it stands after a rise or a fall. -/
def State.lined (d : Dev) (level : Bool) (s : State) : State := { s with readyLine := s.readyLine.set d level }

/-- R86, R121: the state with the status read of a record raised and its suspend timer stopped. -/
def State.reads (d : Dev) (sector : Nat) (s : State) : State := { s with
  tracker := s.tracker.set d { s.tracker.get d with reading := true }
  controller := s.controller.set d { s.controller.get d with suspendTimer := none }
  service := s.service.set d (some { work := .statusRead false, addr := sectorBase sector, behind := hostWaiting s d }) }

/-- R85, R121: a rise taken replaces a SUSPEND that waits, and no other request, by the status read. -/
theorem riseTaken_eq (sector : Nat) (h : ∀ q, s.service.get d = some q → q.work = .suspend) :
    riseTaken d sector s = s.reads d sector := by
  have withdrawn : withdrawSuspend d s = { s with service := s.service.set d none } := by
    rw [withdrawSuspend_eq]
    rcases hq : s.service.get d with _ | q
    · have same : s.service.set d none = s.service := by rw [← hq]; exact perDev_set_get _ _
      rw [same]
    · simp only [h q hq, if_true]
  rw [riseTaken, withdrawn]
  simp only [raiseStatusRead, raiseService, modTracker, modController, State.reads, perDev_set_set, hostWaiting]

theorem burstWaitsAgain_nothing (h : ∀ r since, ¬ StalledBurst s d r since .suspendRaised) : burstWaitsAgain d s = s := by
  simp only [burstWaitsAgain]
  split
  · split
    · exact if_neg fun hd => h _ _ ⟨‹_›, ‹_›, hd⟩
    · rfl
  · rfl

theorem burstWaitsAgain_stalled {r : ReadRecord} {since : Nat} (h : StalledBurst s d r since .suspendRaised) :
    burstWaitsAgain d s = stallRead since .minRun r s := by
  obtain ⟨ht, hs, hd⟩ := h
  simp only [burstWaitsAgain, ht, hs]
  exact if_pos hd

section

variable {s d}

/-- R88, R116: the state as a rise ends a probe, a stalled burst decided again. -/
def State.probed (d : Dev) (s : State) : State := resolveStalled d (setRecord d .array (s.lined d true))

theorem probed_loader : (s.probed d).loader = s.loader := (resolveStalled_frame _ d).loader

theorem readyRises_probe (h : (s.tracker.get d).record = .probe)
    (hl : d = .dev1 ∨ ∀ since, s.loader.state ≠ .waiting .powerOn since) : readyRises d s = s.probed d := by
  simp only [readyRises, h]
  split
  · rename_i since hs
    have waits : s.loader.state = .waiting .powerOn since := (congrArg Loader.state (probed_loader (d := .dev0))).symm.trans hs
    exact hl.elim (fun g => nomatch g) fun g => absurd waits (g since)
  · rfl

theorem readyRises_probe_loads {since : Nat} (h : (s.tracker.get .dev0).record = .probe)
    (hl : s.loader.state = .waiting .powerOn since) :
    readyRises .dev0 s = setLoader (.reading .powerOn 0 0 []) (s.probed .dev0) := by
  have waits : (s.probed .dev0).loader.state = .waiting .powerOn since := (congrArg Loader.state probed_loader).trans hl
  simp only [readyRises, h]
  show (match Dev.dev0, (s.probed .dev0).loader.state with
    | .dev0, .waiting .powerOn _ => _
    | _, _ => _) = _
  rw [waits]
  rfl

theorem readyRises_program {sector target : Nat} {data : Word} (h : (s.tracker.get d).record = .busyProgram sector target data)
    (hr : (s.tracker.get d).reading = false) : readyRises d s
      = if (s.tracker.get d).armed then riseTaken d sector (s.lined d true) else s.lined d true := by
  simp only [readyRises, h, hr, Bool.false_eq_true, not_false_eq_true, and_true]
  rfl

theorem readyRises_erase {sector target : Nat} {e : Option EraseFields}
    (h : (s.tracker.get d).record = .busyErase sector target e) (hr : (s.tracker.get d).reading = false) : readyRises d s
      = if (s.tracker.get d).armed then riseTaken d sector (burstWaitsAgain d (s.lined d true)) else s.lined d true := by
  simp only [readyRises, h, hr, Bool.false_eq_true, not_false_eq_true, and_true]
  rfl

theorem readyRises_suspending {sector target : Nat} {o : Owner} {p : Bool} {e : Option EraseFields}
    (h : (s.tracker.get d).record = .suspending sector target o p e) (hk : (s.tracker.get d).keptRun = none) : readyRises d s
      = if (s.tracker.get d).reading then s.lined d true else riseTaken d sector (s.lined d true) := by
  simp only [readyRises, h, hk, Option.isSome_none, Bool.false_eq_true, or_false]
  rfl

/-- R86: no reading, nothing dropped. -/
theorem dropReading_nothing (h : (s.tracker.get d).reading = false) : dropReading d s = s :=
  if_neg (by simp [h])

/-- R86: the status read that waits is dropped. -/
theorem dropReading_waiting {q : ServiceReq} (h : (s.tracker.get d).reading = true) (hq : s.service.get d = some q)
    (hw : q.work = .statusRead false) (hb : s.bus = none) : dropReading d s = { s with
      tracker := s.tracker.set d { s.tracker.get d with reading := false }
      service := s.service.set d (some { q with work := .statusRead true }) } := by
  obtain ⟨work, a, n⟩ := q
  cases hw
  refine (if_pos h).trans ?_
  simp only [modTracker, hq, hb]

/-- R86: the status read granted is dropped. -/
theorem dropReading_granted {a : Nat} (h : (s.tracker.get d).reading = true) (hq : s.service.get d = none)
    (hb : s.bus = some (.service d (.statusRead false) a)) : dropReading d s = { s with
      tracker := s.tracker.set d { s.tracker.get d with reading := false }
      bus := some (.service d (.statusRead true) a) } := by
  refine (if_pos h).trans ?_
  simp only [modTracker, hq, hb, if_true]

end

/-- Settles O40. -/
theorem readyLineEndsProbesAndOperations : Obligations.ReadyLineEndsProbesAndOperations := by
  intro s d hquiet hbypass hcall up down read
  have rises : ∀ t : State, t.loader = s.loader → readyRises d s = t → exec (.readyLineRises d) s = .next t := by
    intro t hl h
    show attended (readyRises d s) = _
    rw [h, attended_quiet (.inl fun since g => hquiet since ((congrArg Loader.state hl).symm.trans g))]
  refine ⟨?_, fun h => ?_, fun h => ⟨fun q hq hw hb => ?_, fun a hq hb => ?_⟩⟩
  · have armed : ∀ t : State, t.loader = s.loader → (readyRises d s
        = if (s.tracker.get d).armed then t else s.lined d true) →
        exec (.readyLineRises d) s = .next (if (s.tracker.get d).armed then t else up) := by
      intro t ht h
      refine rises _ ?_ h
      split
      · exact ht
      · rfl
    have other : readyRises d s = up → exec (.readyLineRises d) s = .next up := rises up rfl
    cases hr : (s.tracker.get d).record with
    | probe =>
      have released : s.probed d = (up.withRecord d .array).releases d := by
        refine resolveStalled_releases (up.withRecord d .array) d ?_ hbypass hcall
        simp only [State.withRecord, perDev_get_set]
        rfl
      refine ⟨fun hl => ?_, fun since hd hl => ?_⟩
      · rw [← released]
        exact rises _ probed_loader (readyRises_probe hr hl)
      · subst hd
        have loads : readyRises .dev0 s = { s.probed .dev0 with loader := { s.loader with state := .reading .powerOn 0 0 [] } } :=
          (readyRises_probe_loads hr hl).trans (by rw [setLoader, probed_loader])
        show attended (readyRises .dev0 s) = _
        rw [loads, ← released]
        exact attended_quiet (.inl fun since g => nomatch g)
    | busyProgram sector target data =>
      intro hread hserv
      refine armed (read sector) rfl ?_
      rw [readyRises_program hr hread, riseTaken_eq (s.lined d true) d sector fun q hq => nomatch hserv.symm.trans hq]
      rfl
    | busyErase sector target e =>
      intro hread
      refine ⟨fun hserv hnone => ?_, fun r since q hst hq hw => ?_⟩
      · refine armed (read sector) rfl ?_
        rw [readyRises_erase hr hread, burstWaitsAgain_nothing (s.lined d true) d hnone,
          riseTaken_eq (s.lined d true) d sector fun q hq => nomatch hserv.symm.trans hq]
        rfl
      · refine armed { read sector with
          host := { s.host with transaction := .read { r with stage := .stalled since .minRun } } } rfl ?_
        rw [readyRises_erase hr hread, burstWaitsAgain_stalled (s.lined d true) d hst,
          riseTaken_eq (stallRead since .minRun r (s.lined d true)) d sector
            fun x hx => (Option.some.inj (hq.symm.trans hx)) ▸ hw]
        rfl
    | suspending sector target o p e =>
      intro hk hserv
      have rise := readyRises_suspending hr hk
      rw [riseTaken_eq (s.lined d true) d sector fun q hq => nomatch hserv.symm.trans hq] at rise
      refine rises _ ?_ rise
      split <;> rfl
    | _ => exact other (by simp only [readyRises, hr]; rfl)
  · exact congrArg Host.Outcome.next (dropReading_nothing (s := s.lined d false) h)
  · exact congrArg Host.Outcome.next (dropReading_waiting (s := s.lined d false) h hq hw hb)
  · exact congrArg Host.Outcome.next (dropReading_granted (s := s.lined d false) h hq hb)

end Sys2Proof.Machine
end

section
/-! PROOFS. The grant: which request the arbiter takes, and what its forwarding sets (R20, R21, R120, R126, R146 to R149). -/

namespace Sys2Proof.Machine

set_option Elab.async false

variable (s : State) (first d : Dev)

/-! ### What a grant leaves to the loader -/

/-- R180: a reload that has nothing to do to device 0's record still has nothing to do while the record, the loader and what
stands for the record are the same. -/
theorem LoaderPassive.of {s t : State} (h : LoaderPassive s) (hl : t.loader = s.loader)
    (hr : t.tracker.dev0.record = s.tracker.dev0.record)
    (hs : (∃ q, s.service.dev0 = some q) → ∃ q, t.service.dev0 = some q) : LoaderPassive t := by
  intro since hw
  have passive := h since (hl ▸ hw)
  rw [hr, hl]
  revert passive
  cases s.tracker.dev0.record with
  | status sector => exact Or.imp id hs
  | suspended sector target o p e =>
    cases o with
    | host => exact hs
    | part => exact id
  | _ => exact id

/-! ### Which request is granted -/

theorem serviceGrantable_iff : serviceGrantable s d = true ↔ ∃ q, s.service.get d = some q ∧ q.behind = 0 := by
  rcases h : s.service.get d with _ | q <;> simp [serviceGrantable, h]

/-- R148: either device's request is taken, `first` being preferred. -/
theorem serviceChoice_some {q : ServiceReq} (hq : s.service.get d = some q) (hb : q.behind = 0)
    (hd : d = first ∨ ¬ ∃ q, s.service.get first = some q ∧ q.behind = 0) : serviceChoice first s = some d := by
  have granted : serviceGrantable s d = true := (serviceGrantable_iff s d).mpr ⟨q, hq, hb⟩
  by_cases hf : serviceGrantable s first = true
  · rcases hd with rfl | hd
    · exact if_pos hf
    · exact absurd ((serviceGrantable_iff s first).mp hf) hd
  · have other : d = otherDev first := by
      cases d with
      | dev0 => cases first with
        | dev0 => exact absurd granted hf
        | dev1 => rfl
      | dev1 => cases first with
        | dev0 => rfl
        | dev1 => exact absurd granted hf
    rw [serviceChoice, if_neg hf, ← other, if_pos granted]

/-- R148: a request of the other device, and the place of one in the order, concern no reload. -/
theorem LoaderPassive.nearer {s t : State} (h : LoaderPassive s) (x : Dev) (hl : t.loader = s.loader)
    (hr : t.tracker = s.tracker)
    (hs : t.service = s.service.set x ((s.service.get x).map fun q => { q with behind := q.behind - 1 })) :
    LoaderPassive t := by
  refine h.of hl (by rw [hr]) ?_
  rintro ⟨q, hq⟩
  rw [hs]
  cases x with
  | dev0 => exact ⟨_, congrArg (Option.map _) hq⟩
  | dev1 => exact ⟨q, hq⟩

/-- R180: an ARRAY write of the tracker service on the bus stands for the record whose request it was. -/
theorem loaderAttends_arrayWrite {c : Bool} {a : Nat} (h : LoaderPassive s) :
    loaderAttends { s with bus := some (.service d (.arrayWrite c) a), service := s.service.set d none }
      = { s with bus := some (.service d (.arrayWrite c) a), service := s.service.set d none } := by
  cases d with
  | dev1 => exact loaderAttends_passive _ (h.of rfl rfl id)
  | dev0 =>
    let t : State := { s with bus := some (.service .dev0 (.arrayWrite c) a), service := s.service.set .dev0 none }
    have stands : writeStands t .dev0 = true := writeStands_bus t rfl (.inl ⟨c, rfl⟩)
    by_cases hr : ∃ sector, s.tracker.dev0.record = .refused sector
    · obtain ⟨sector, hr⟩ := hr
      refine loaderAttends_passive t fun since hs => ?_
      have passive := h since hs
      rw [hr] at passive
      show match s.tracker.dev0.record with
        | .status x => x ≠ s.loader.bootSector ∨ ∃ q, t.service.dev0 = some q
        | .refused x => x ≠ s.loader.bootSector
        | .suspended _ _ .host _ _ => ∃ q, t.service.dev0 = some q
        | _ => True
      rw [hr]
      exact passive
    · exact loaderAttends_stands t (not_exists.mp hr) (fun _ _ => stands) fun _ _ _ _ _ _ => stands

theorem serviceChoice_ungrantable (h : ∀ d, ¬ ∃ q, s.service.get d = some q ∧ q.behind = 0) :
    serviceChoice first s = none := by
  have never : ∀ d, ¬ serviceGrantable s d = true := fun d g => h d ((serviceGrantable_iff s d).mp g)
  rw [serviceChoice, if_neg (never _), if_neg (never _)]

theorem grant_busy {x : BusTxn} (h : s.bus = some x) : grant first s = s := if_pos (by simp [h])

section

variable {s first}
variable (hb : s.bus = none)
include hb

theorem grant_service {d : Dev} {q : ServiceReq} (hc : serviceChoice first s = some d) (hq : s.service.get d = some q) :
    grant first s = serviceForwarded d q.work
      { s with bus := some (.service d q.work q.addr), service := s.service.set d none } := by
  simp only [grant, hb, hc, hq, Option.isSome_none, Bool.false_eq_true, if_false]
  rfl

variable (hc : serviceChoice first s = none)
include hc

theorem grant_path {x : HostTxn} {rest : List HostTxn} (hp : s.hostPath = x :: rest) : grant first s = retakeKept x.dev
    (hostForwarded x { s with
      bus := some (.host x)
      hostPath := rest
      service := s.service.set x.dev ((s.service.get x.dev).map fun q => { q with behind := q.behind - 1 }) }) := by
  simp only [grant, hb, hc, hp, Option.isSome_none, Bool.false_eq_true, if_false]
  rfl

variable (hp : s.hostPath = [])
include hp

theorem grant_loader {a n : Nat} (hl : loaderRequest s = some (a, n)) :
    grant first s = { s with bus := some (.loader a n) } := by
  simp only [grant, hb, hc, hp, hl, Option.isSome_none, Bool.false_eq_true, if_false]

theorem grant_fill {line : Nat} {j : FillJob} (hl : loaderRequest s = none) (hf : fillRequest s = some line)
    (hj : s.fill.job = some j) : grant first s = { s with
      bus := some (.fill (line * 16)), fill := { s.fill with job := some { j with stage := .reading } } } := by
  simp only [grant, hb, hc, hp, hl, hf, hj, Option.isSome_none, Bool.false_eq_true, if_false]
  rfl

theorem grant_nothing (hl : loaderRequest s = none) (hf : fillRequest s = none) : grant first s = s := by
  simp only [grant, hb, hc, hp, hl, hf, Option.isSome_none, Bool.false_eq_true, if_false]

end

theorem fillRequest_job {line : Nat} (h : fillRequest s = some line) : ∃ j, s.fill.job = some j := by
  rcases hj : s.fill.job with _ | j
  · simp [fillRequest, hj] at h
  · exact ⟨j, rfl⟩

/-- R170: the loader asks for a read while it reads, and not while it waits. -/
theorem loaderRequest_quiet {x : Nat × Nat} (h : loaderRequest s = some x) : LoaderQuiet s := by
  intro since hs
  simp [loaderRequest, hs] at h

theorem retakeKept_nothing (h : (s.tracker.get d).kept = []) : retakeKept d s = s := by
  rw [retakeKept, h]
  rfl

/-! ### What a forwarding sets -/

theorem eraseForwarded_busy {sector target : Nat} {e : Option EraseFields}
    (h : (s.tracker.get d).record = .busyErase sector target e) : eraseForwarded d s = { s with
      tracker := s.tracker.set d { s.tracker.get d with
        record := .busyErase sector target (some { count := 0, snapshot := (s.policy.get d).budget, disabled := false }) }
      controller := s.controller.set d { Controller.lapsed with lastResume := some s.clock } } := by
  simp only [eraseForwarded, h]
  rfl

theorem deferredDecision_none (h : ∀ r, s.host.transaction = .read r → r.stage = .deferred → devOf r.addr ≠ d) :
    deferredDecision d s = s := by
  simp only [deferredDecision]
  split
  · exact if_neg fun g => h _ ‹_› g.1 g.2
  · rfl

theorem deferredDecision_read {r : ReadRecord} (h : s.host.transaction = .read r) (hs : r.stage = .deferred)
    (hd : devOf r.addr = d) : deferredDecision d s = missDecision s.clock r s := by
  simp only [deferredDecision, h]
  exact if_pos ⟨hs, hd⟩

/-- R20, R21: the SHADOWED_WRITE notices of a pair, in ascending position. -/
theorem postShadowed_all (addr : Nat) (detail : Word) (l : List Nat) : l.foldl (postShadowed d addr detail) s = { s with
    notices := l.foldl (fun n p => n.post (timeBase s)
        { kind := .shadowedWrite, device := some d, address := some addr, entry := some p, detail := detail })
      s.notices } := by
  induction l generalizing s with
  | nil => rfl
  | cons p l ih => exact ih _

/-- `t` is `s` with the records, the controllers and the notices moved, the kept writes and what concerns the loader as they
were. -/
structure MovesRecords (s t : State) : Prop where
  eq : t = { s with tracker := t.tracker, controller := t.controller, notices := t.notices }
  kept : ∀ d, (t.tracker.get d).kept = (s.tracker.get d).kept
  passive : LoaderPassive s → LoaderPassive t

theorem MovesRecords.of_tracker {s t : State} (h : t = { s with controller := t.controller, notices := t.notices }) :
    MovesRecords s t := by
  have tracker : t.tracker = s.tracker := by rw [h]
  have loader : t.loader = s.loader := by rw [h]
  have service : t.service = s.service := by rw [h]
  refine ⟨?_, fun d => by rw [tracker], fun p => p.of loader (by rw [tracker]) (by rw [service]; exact id)⟩
  rw [tracker]
  exact h

theorem MovesRecords.trans {s t u : State} (h : MovesRecords s t) (g : MovesRecords t u) : MovesRecords s u := by
  refine ⟨?_, fun d => (g.kept d).trans (h.kept d), g.passive ∘ h.passive⟩
  have eq := g.eq
  rw [h.eq] at eq
  exact eq

theorem eraseForwarded_moves : MovesRecords s (eraseForwarded d s) := by
  by_cases h : ∃ sector target e, (s.tracker.get d).record = .busyErase sector target e
  · obtain ⟨sector, target, e, h⟩ := h
    rw [eraseForwarded_busy s d h]
    refine ⟨rfl, fun x => ?_, fun p => ?_⟩
    · by_cases hx : x = d
      · subst hx
        rw [perDev_get_set]
      · rw [perDev_get_set_other _ _ _ hx]
    · cases d with
      | dev0 => exact fun since _ => trivial
      | dev1 => exact p.of rfl rfl id
  · have other : eraseForwarded d s = s := by
      simp only [eraseForwarded]
      split
      · exact absurd ⟨_, _, _, ‹_›⟩ h
      · rfl
    rw [other]
    exact .of_tracker rfl

theorem hostWordForwarded_moves (w : Word) : MovesRecords s (hostWordForwarded d w s) := by
  simp only [hostWordForwarded]
  split
  · split
    · split <;> exact .of_tracker rfl
    · exact .of_tracker rfl
  · split <;> exact .of_tracker rfl

/-- R147: a forwarding that finds no burst deferred to it. -/
theorem hostForwarded_moves (x : HostTxn)
    (h : ∀ r, s.host.transaction = .read r → r.stage = .deferred → devOf r.addr ≠ x.dev) :
    MovesRecords s (hostForwarded x s) := by
  cases x with
  | read a n bypass discard =>
    simp only [hostForwarded]
    split <;> exact .of_tracker rfl
  | write a w => exact hostWordForwarded_moves s _ w
  | pair held hw a w =>
    let posted : State := (shadowingPositions s.active (decide (hw = Config.eraseWord)) a held).foldl
      (postShadowed (devOf held) a (if decide (hw = Config.eraseWord) then shadowErase else shadowProgram)) s
    have hposted : MovesRecords s posted := by
      simp only [posted, postShadowed_all]
      exact .of_tracker rfl
    have undeferred : ∀ t : State, MovesRecords posted t → deferredDecision (devOf held) t = t := by
      intro t ht
      refine deferredDecision_none t _ fun r hr => h r ?_
      have host : t.host = s.host := by rw [ht.eq, hposted.eq]
      rw [← host]
      exact hr
    show MovesRecords s (deferredDecision (devOf held)
      (if decide (hw = Config.eraseWord) then eraseForwarded (devOf held) posted else posted))
    split
    · rw [undeferred _ (eraseForwarded_moves posted _)]
      exact hposted.trans (eraseForwarded_moves posted _)
    · rw [undeferred _ (.of_tracker rfl)]
      exact hposted

/-- Settles O41: the grant by its cases, the loader then finding nothing to do. -/
theorem arbiterGrantsInItsOrder : Obligations.ArbiterGrantsInItsOrder := by
  intro s first
  refine ⟨loaderAttends (grant first s), rfl, fun x hb => ?_, fun hb => ?_⟩
  · rw [grant_busy s first hb]
    exact ⟨(loaderAttends_frame s).bus.trans hb, fun p => loaderAttends_passive s p⟩
  intro grantable
  refine ⟨fun d q hq hbehind hd => ?_, fun hnone => ⟨fun x rest hp => ?_, fun hp => ⟨fun a n hl => ?_, fun hl =>
    ⟨fun line hf => ?_, fun hf => ?_⟩⟩⟩⟩
  · intro taken
    have granted : grant first s = serviceForwarded d q.work taken :=
      grant_service hb (serviceChoice_some s first d hq hbehind hd) hq
    refine ⟨?_, fun c hw p => ?_, fun c hw p => ?_⟩
    · rw [(loaderAttends_frame _).bus, granted, (serviceForwarded_path taken d q.work).frame.bus]
    · rw [granted, hw]
      exact loaderAttends_passive taken p
    · rw [granted, hw]
      show loaderAttends taken = taken
      simp only [taken, hw]
      exact loaderAttends_arrayWrite s d p
  · intro near
    have granted : grant first s = retakeKept x.dev (hostForwarded x near) :=
      grant_path hb (serviceChoice_ungrantable s first hnone) hp
    refine ⟨?_, fun p hk => ⟨fun hdef => ?_, fun a n bypass discard hx => ?_, fun a w hx h44 h45 => ?_⟩⟩
    · rw [(loaderAttends_frame _).bus, granted, (retakeKept_frame _ _).bus, (hostForwarded_path near x).frame.bus]
    all_goals
      have passive : LoaderPassive near := p.nearer x.dev rfl rfl rfl
    · have moved := hostForwarded_moves near x hdef
      have still : retakeKept x.dev (hostForwarded x near) = hostForwarded x near :=
        retakeKept_nothing _ _ ((moved.kept _).trans hk)
      rw [granted, still, loaderAttends_passive _ (moved.passive passive), moved.eq]
      exact ⟨rfl, rfl⟩
    · subst hx
      have forwarded : hostForwarded (.read a n bypass discard) near
          = if bypass || discard then near else restartIdle (devOf a) near := rfl
      rw [granted, forwarded]
      split
      · rw [retakeKept_nothing near _ hk]
        exact loaderAttends_passive _ passive
      · rw [retakeKept_nothing (restartIdle (devOf a) near) _ hk]
        exact loaderAttends_passive _ (passive.of rfl rfl id)
    · subst hx
      have forwarded : hostForwarded (.write a w) near = near := hostWordForwarded_plain near h44 h45
      rw [granted, forwarded, retakeKept_nothing near _ hk]
      exact loaderAttends_passive _ passive
  · have granted := grant_loader hb (serviceChoice_ungrantable s first hnone) hp hl
    rw [granted]
    exact loaderAttends_quiet _ (.inl (loaderRequest_quiet s hl))
  · obtain ⟨j, hj⟩ := fillRequest_job s hf
    have granted := grant_fill hb (serviceChoice_ungrantable s first hnone) hp hl hf hj
    refine ⟨?_, fun j' hj' p => ?_⟩
    · rw [(loaderAttends_frame _).bus, granted]
    · cases hj.symm.trans hj'
      rw [granted]
      exact loaderAttends_passive _ (p.of rfl rfl id)
  · have granted := grant_nothing hb (serviceChoice_ungrantable s first hnone) hp hl hf
    rw [granted]
    exact ⟨(loaderAttends_frame s).bus.trans hb, fun p => loaderAttends_passive s p⟩

end Sys2Proof.Machine
end

section
/-! PROOFS. The forwarding of a command pair, of a SUSPEND and of a RESUME (R20, R21, R73, R119, R120, R126, R149). -/

namespace Sys2Proof.Machine

set_option Elab.async false

variable (s : State) (first d : Dev)

/-! ### The forwarding of a pair -/

theorem service_nearer_none {x : Dev} (h : s.service.get x = none) :
    s.service.set x ((s.service.get x).map fun q => { q with behind := q.behind - 1 }) = s.service := by
  rw [h, Option.map_none, ← h]
  exact perDev_set_get _ _

/-- R148: with nothing asked for by the tracker, the front transaction is granted and nothing comes nearer. -/
theorem grant_front {s : State} {first : Dev} {x : HostTxn} {rest : List HostTxn} (hb : s.bus = none)
    (hs : ∀ d, s.service.get d = none) (hp : s.hostPath = x :: rest) : grant first s
      = retakeKept x.dev (hostForwarded x { s with bus := some (.host x), hostPath := rest }) := by
  rw [grant_path hb (serviceChoice_none s first hs) hp, service_nearer_none s (hs _)]

/-- R20, R21: the notice unit once SHADOWED_WRITE has been posted for each of the positions. -/
def shadowNotices (a : Nat) (detail : Word) (positions : List Nat) : NoticeUnit :=
  positions.foldl
    (fun n p => n.post (timeBase s)
      { kind := .shadowedWrite, device := some d, address := some a, entry := some p, detail := detail })
    s.notices

/-- R20: the notices of the entries over an erased sector. -/
theorem pairForwarded_erase (held a : Nat) : pairForwarded held 0x3C22 a s
    = deferredDecision (devOf held) (eraseForwarded (devOf held) { s with
        notices := shadowNotices s (devOf held) a 2 (shadowingPositions s.active true a held) }) :=
  congrArg (fun t => deferredDecision (devOf held) (eraseForwarded (devOf held) t))
    (postShadowed_all s (devOf held) a 2 _)

/-- R21: the notices of an entry over a programmed line. -/
theorem pairForwarded_program (held a : Nat) : pairForwarded held 0x3C11 a s
    = deferredDecision (devOf held) { s with
        notices := shadowNotices s (devOf held) a 1 (shadowingPositions s.active false a held) } :=
  congrArg (deferredDecision (devOf held)) (postShadowed_all s (devOf held) a 1 _)

/-- Settles O42. -/
theorem erasePairForwardingSetsTheEraseFields : Obligations.ErasePairForwardingSetsTheEraseFields := by
  intro s first d held a sector target w data hidle hb hserv hd hk granted shadows decided undeferred
  subst hd
  have forwards : ∀ {x : HostTxn} {u : State}, s.hostPath = [x] → x.dev = devOf held → hostForwarded x (granted x) = u →
      u.loader = s.loader → (u.tracker.get (devOf held)).kept = [] → exec (.memoryFaceGrant first) s = .next u := by
    intro x u hp hx hu hl hkept
    show attended (grant first s) = _
    rw [grant_front hb hserv hp, show hostForwarded x _ = u from hu, hx, retakeKept_nothing u _ hkept]
    exact attended_idle ((congrArg Loader.state hl).trans hidle)
  refine ⟨fun hp hr => ?_, fun hp hr => ?_⟩
  · intro e t
    have tracker : t.tracker.get (devOf held) = { s.tracker.get (devOf held) with
        record := .busyErase sector target (some e) } := perDev_get_set _ _ _
    have controller : (t.controller.get (devOf held)).lastResume = some s.clock := by
      simp only [t, perDev_get_set]
    have kept : (t.tracker.get (devOf held)).kept = [] := by rw [tracker]; exact hk
    have forwarded : hostForwarded (.pair held 0x3C22 a 0x3CEE) (granted (.pair held 0x3C22 a 0x3CEE))
        = deferredDecision (devOf held) t :=
      (pairForwarded_erase _ held a).trans (congrArg (deferredDecision (devOf held)) (eraseForwarded_busy _ _ hr))
    refine ⟨fun hnone => ?_, fun r hr hs hd ha hbudget hmin => ?_⟩
    · exact forwards hp rfl (forwarded.trans (deferredDecision_none t _ hnone)) rfl kept
    · have decides : missDecision s.clock r t = decided r .minRun t := by
        rw [missDecision_erase t (r := r) (sector := sector) (target := target) (e := some e)
          (by rw [hd, tracker]) (by rw [hd]; rfl)]
        refine decideErase_waits t (t := s.clock) ((suspensionAvailable_iff t).mpr ?_) ?_ ?_
        · rw [hd]; exact ⟨ha, rfl, hbudget⟩
        · rw [hd]; exact controller
        · rw [hd]; exact Nat.lt_add_of_pos_right hmin
      exact forwards hp rfl (forwarded.trans ((deferredDecision_read t _ hr hs hd).trans decides)) rfl kept
  · intro t
    have forwarded : hostForwarded (.pair held 0x3C11 a w) (granted (.pair held 0x3C11 a w))
        = deferredDecision (devOf held) t := pairForwarded_program _ held a
    refine ⟨fun hnone => ?_, fun r ht hs hd hcls => ⟨fun hm => ?_, fun hm hc => ?_⟩⟩
    · exact forwards hp rfl (forwarded.trans (deferredDecision_none t _ hnone)) rfl hk
    all_goals
      have decides : missDecision s.clock r t = fallToPolicy s.clock r t :=
        missDecision_program t (r := r) (hd ▸ hr) (by rw [hd]; rfl)
      have taken := forwarded.trans ((deferredDecision_read t _ ht hs hd).trans decides)
    · have stalls : fallToPolicy s.clock r t = decided r .policy t := by
        have policy : (t.policy.get (devOf r.addr)).missPolicy = .stall := hd ▸ hm
        simp only [fallToPolicy, policy]
        rfl
      exact forwards hp rfl (taken.trans stalls) rfl hk
    · have policy : (t.policy.get (devOf r.addr)).missPolicy = .pass := hd ▸ hm
      have passes : fallToPolicy s.clock r t = t.released r := by
        rw [fallToPolicy_released t s.clock r hcls (hd ▸ hc)]
        simp only [policy]
      exact forwards hp rfl (taken.trans passes) rfl hk

/-! ### The forwarding of a SUSPEND and of a RESUME -/

/-- R120: the record, the controller and the burst served, at the forwarding of a SUSPEND of the part. -/
theorem suspendForwarded_stalled {r : ReadRecord} {since sector target : Nat} {e : EraseFields}
    (hr : (s.tracker.get d).record = .busyErase sector target (some e)) (h : StalledBurst s d r since .suspendRaised) :
    suspendForwarded d s = { s with
      tracker := s.tracker.set d { s.tracker.get d with
        record := .suspending sector target .part false (some { e with count := e.count + 1 }) }
      controller := s.controller.set d { s.controller.get d with suspendTimer := some s.clock }
      host := { s.host with transaction := .read { r with stage := .stalled since .suspending } } } := by
  obtain ⟨ht, hs, hd⟩ := h
  simp only [suspendForwarded, hr]
  show (match s.host.transaction with
    | .read r => match r.stage with
      | .stalled _ .suspendRaised => _
      | _ => _
    | _ => _) = _
  rw [ht]
  simp only [hs]
  exact if_pos hd

/-- R119, R126: the forwarding of a RESUME becomes the last resume, and the timers stop. -/
theorem resumeForwarded_eq : resumeForwarded d s = { s with controller := s.controller.set d { s.controller.get d with
    lastResume := some s.clock, idleTimer := none, holdTimer := none, call := none } } := by
  simp only [resumeForwarded, stopResumeTimers, modController, perDev_get_set, perDev_set_set]

/-- R124, R126, R180: the record is BUSY_ERASE again, and a stalled burst is decided afresh. -/
theorem resumeGranted_suspended {sector target : Nat} {o : Owner} {p : Bool} {e : Option EraseFields}
    (h : (s.tracker.get d).record = .suspended sector target o p e) : resumeGranted d s = resolveStalled d { s with
      tracker := s.tracker.set d { s.tracker.get d with record := .busyErase sector target e, armed := false }
      controller := s.controller.set d { s.controller.get d with
        lastResume := some s.clock, idleTimer := none, holdTimer := none, call := none } } := by
  simp only [resumeGranted, h, resumeForwarded_eq, disarm, setRecord, modTracker, perDev_get_set, perDev_set_set]

theorem resolveStalled_stalled {s : State} {d : Dev} {r : ReadRecord} {since : Nat} {why : StallWhy}
    (h : StalledBurst s d r since why) : resolveStalled d s = missDecision since r s := by
  obtain ⟨ht, hs, hd⟩ := h
  simp only [resolveStalled, ht, hs]
  exact if_pos hd

/-- R180: the loader has nothing to do to a record in BUSY_ERASE. -/
theorem attended_busyErase {t : State} {sector target : Nat} {e : Option EraseFields}
    (h : t.tracker.dev0.record = .busyErase sector target e) : attended t = .next t :=
  attended_passive fun since _ => by rw [h]; trivial

/-- Settles O43. -/
theorem suspendAndResumeAreForwarded : Obligations.SuspendAndResumeAreForwarded := by
  intro s first d a sector target e hb hothers
  have chosen : ∀ {q : ServiceReq}, s.service.get d = some q → q.behind = 0 → grant first s = serviceForwarded d q.work
      { s with bus := some (.service d q.work q.addr), service := s.service.set d none } := by
    intro q hq hbehind
    refine grant_service hb (serviceChoice_some s first d hq hbehind ?_) hq
    by_cases hd : d = first
    · exact .inl hd
    · exact .inr fun ⟨x, hx, _⟩ => nomatch (hothers first fun g => hd g.symm).symm.trans hx
  refine ⟨fun r since hquiet hq hr ht hs hd => ?_, fun cause o p hquiet hq hr => ?_,
    fun rest hpassive hbehind hd hk => ?_⟩
  · have granted := (chosen hq rfl).trans
      (suspendForwarded_stalled { s with bus := some (.service d .suspend a), service := s.service.set d none } d hr
        ⟨ht, hs, hd⟩)
    show attended (grant first s) = _
    rw [granted]
    exact attended_quiet (.inl hquiet)
  · intro resumed t
    refine ⟨fun hc hquiet => ?_, fun hc => ?_⟩
    · subst hc
      have forwarded : cleanupResumeGranted d
          { s with bus := some (.service d (.resume .cleanup) a), service := s.service.set d none }
            = resumed (.suspended sector target o p (some e)) := by
        rw [cleanupResumeGranted, resumeForwarded_eq]
        simp only [disarm, modTracker, resumed, ← hr]
      show attended (grant first s) = _
      rw [chosen hq rfl, serviceForwarded, forwarded]
      exact attended_quiet (.inl hquiet)
    · have forwarded : serviceForwarded d (.resume cause)
          { s with bus := some (.service d (.resume cause) a), service := s.service.set d none }
            = resolveStalled d t := by
        cases cause with
        | cleanup => exact absurd rfl hc
        | timers => exact resumeGranted_suspended _ d hr
        | pendingResume => exact resumeGranted_suspended _ d hr
        | loader => exact resumeGranted_suspended _ d hr
      have record : (t.tracker.get d).record = .busyErase sector target (some e) := by
        simp only [t, resumed, perDev_get_set]
      have granted : grant first s = resolveStalled d t := (chosen hq rfl).trans forwarded
      have left_alone : ∀ u : State, u.loader = s.loader → u.tracker = t.tracker → attended u = .next u := by
        intro u hl ht
        rcases hquiet with hquiet | rfl
        · exact attended_quiet (.inl fun since g => hquiet since ((congrArg Loader.state hl).symm.trans g))
        · exact attended_busyErase (by rw [ht]; exact record)
      refine ⟨fun hnone => ?_, fun r since why hst hpair ha hdis hcount hmin => ?_⟩
      · show attended (grant first s) = _
        rw [granted, resolveStalled_nothing t d hnone]
        exact left_alone t rfl rfl
      · obtain ⟨ht, hs, rfl⟩ := hst
        have resume : (t.controller.get (devOf r.addr)).lastResume = some s.clock := by
          simp only [t, resumed, perDev_get_set]
        have decides : missDecision since r t = stallRead since .minRun r t := by
          rw [missDecision_erase t record hpair]
          exact decideErase_waits t (t := s.clock) ((suspensionAvailable_iff t).mpr ⟨ha, hdis, hcount⟩) resume
            (Nat.lt_add_of_pos_right hmin)
        show attended (grant first s) = _
        rw [granted, resolveStalled_stalled (s := t) ⟨ht, hs, rfl⟩, decides]
        exact left_alone _ rfl rfl
  · intro granted
    subst hd
    have ungrantable : serviceChoice first s = none := by
      refine serviceChoice_ungrantable s first ?_
      rintro x ⟨q, hq, hz⟩
      by_cases hx : x = devOf a
      · subst hx
        exact hbehind q hq hz
      · exact nomatch (hothers x hx).symm.trans hq
    have forwards : ∀ {w : Word} {u : State}, s.hostPath = .write a w :: rest →
        hostWordForwarded (devOf a) w (granted w) = u → u.tracker = s.tracker → u.loader = s.loader →
        u.service = (granted w).service → exec (.memoryFaceGrant first) s = .next u := by
      intro w u hp hu ht hl hs
      have kept : retakeKept (devOf a) u = u := retakeKept_nothing u _ (by rw [ht]; exact hk)
      have forwarded : grant first s = u :=
        (grant_path hb ungrantable hp).trans ((congrArg (retakeKept (devOf a)) hu).trans kept)
      show attended (grant first s) = _
      rw [forwarded]
      exact attended_passive (hpassive.nearer (devOf a) hl ht hs)
    refine ⟨fun o p x hp hr => ⟨fun hread => ?_, fun hread => ?_⟩, fun hp => ?_⟩
    · refine forwards hp ?_ rfl rfl rfl
      refine (if_pos rfl).trans ?_
      show (match (s.tracker.get (devOf a)).record with | .suspending .. => _ | _ => _) = _
      rw [hr]
      exact if_pos hread
    · refine forwards hp ?_ rfl rfl rfl
      refine (if_pos rfl).trans ?_
      show (match (s.tracker.get (devOf a)).record with | .suspending .. => _ | _ => _) = _
      rw [hr]
      exact if_neg (by rw [show ((granted 0x3C44).tracker.get (devOf a)).reading = false from hread]; exact Bool.false_ne_true)
    · exact forwards hp rfl rfl rfl rfl

end Sys2Proof.Machine
end

section
/-! PROOFS. The status read: a completion, a suspension, or another reading (R16 to R18, R86, R121 to R124). -/

namespace Sys2Proof.Machine

set_option Elab.async false

variable {s : State} {d : Dev}

/-! ### Follow runs -/

theorem listHolds_iff : listHolds s d = true ↔ ∃ z ∈ s.follow.waiting, z.dev = d := by
  simp [listHolds]

/-- R18: a run handed over begins at once when none is in progress or waits, and otherwise waits its turn. -/
theorem handOver_follow (run : FollowRun) (h : s.follow.current = none → s.follow.waiting = []) : handOver run s = { s with
    follow := if s.follow.current = none then { current := some run, waiting := [] }
      else { s.follow with waiting := s.follow.waiting ++ [run] } } := by
  cases hc : s.follow.current with
  | none => simp only [handOver, beginRun, hc, h hc, List.nil_append, if_true]
  | some x =>
    simp only [handOver, beginRun, hc]
    rfl

/-- R17: the slots of an entry's lines in an erased sector. -/
theorem eraseSlots_eq (sector : Nat) (e : Entry) : eraseSlots sector e = match e.mode with
    | .replace slot true _ =>
      ((List.range e.lineCount).filter fun k => (e.firstLine + k) / 4096 = sector).map fun k => slot + k
    | _ => [] := by
  cases hm : e.mode with
  | replace slot follow check =>
    cases follow with
    | true => simp only [eraseSlots, Entry.followSlot, hm]; rfl
    | false => simp only [eraseSlots, Entry.followSlot, hm]
  | blank w => simp only [eraseSlots, Entry.followSlot, hm]
  | trap => simp only [eraseSlots, Entry.followSlot, hm]

/-- R16: the run of a program: the word of a follow = yes entry over the target. -/
theorem followRunOf_program (sector target : Nat) (data : Word) :
    ((∀ p e, lookup s.active (lineOf target) = some (p, e) → e.followSlot = none) →
      followRunOf s d (.busyProgram sector target data) = none)
    ∧ ∀ p e slot, lookup s.active (lineOf target) = some (p, e) → e.followSlot = some slot →
      followRunOf s d (.busyProgram sector target data)
        = some (.program d (slot + (lineOf target - e.firstLine)) (target % 16) data) := by
  refine ⟨fun h => ?_, fun p e slot hl hs => ?_⟩
  · rcases hl : lookup s.active (lineOf target) with _ | ⟨p, e⟩
    · simp only [followRunOf, hl]
    · simp only [followRunOf, hl, h p e hl]
  · simp only [followRunOf, hl, hs]
    rfl

/-- R17: the run of an erase: the slots of every follow = yes entry's lines in the sector, none when there is none. -/
theorem followRunOf_erase {sector : Nat} {r : Record} (h : (∃ target e, r = .busyErase sector target e)
    ∨ ∃ target o p e, r = .suspending sector target o p e) : followRunOf s d r
      = if (activeEntries s.active).flatMap (fun p => eraseSlots sector p.2) = [] then none
        else some (.erase d ((activeEntries s.active).flatMap fun p => eraseSlots sector p.2) 0) := by
  rcases h with ⟨target, e, rfl⟩ | ⟨target, o, p, e, rfl⟩ <;>
    · simp only [followRunOf]
      split
      · rw [if_pos ‹_›]
      · rw [if_neg (by assumption)]

/-! ### The record that has been decided -/

/-- R87, R116: a record that keeps nothing enters a state in which the burst stalled for its device is released. -/
theorem released_after {t : State} (hk : (t.tracker.get d).kept = [])
    (hr : (t.tracker.get d).record.forwardsMisses = true) (hb : BypassesPass t d) (hc : (t.controller.get d).call = none) :
    resolveStalled d (releaseKept d t) = t.releases d := by
  rw [releaseKept_nothing t d hk, resolveStalled_releases t d hr hb hc]

theorem releases_follow (l : Follow) : State.releases d { s with follow := l } = { s.releases d with follow := l } := by
  cases ht : s.host.transaction with
  | read r =>
    cases hs : r.stage with
    | stalled since why =>
      simp only [State.releases, ht, hs]
      by_cases hd : devOf r.addr = d
      · rw [if_pos hd, if_pos hd]
        rfl
      · rw [if_neg hd, if_neg hd]
    | _ => simp only [State.releases, ht, hs]
  | _ => simp only [State.releases, ht]

/-- R86: the state of a completed operation: the record in STATUS, the controller lapsed, the notice posted. -/
def State.operated (d : Dev) (sector target : Nat) (kind : NoticeKind) (w : Word) (s : State) : State := { s with
  tracker := s.tracker.set d { s.tracker.get d with record := .status sector, armed := false, reading := false }
  controller := s.controller.set d Controller.lapsed
  notices := s.notices.post (timeBase s)
    { kind := kind, device := some d, address := some target, entry := none, detail := w } }

section

variable (hk : (s.tracker.get d).kept = []) (hrun : (s.tracker.get d).keptRun = none) (hb : BypassesPass s d)
  (sector target : Nat) (w : Word)
include hk hrun hb

theorem enterStatus_operated (kind : NoticeKind) (l : Follow) :
    enterStatus d sector { postOp kind d target w (readingOver d s) with follow := l }
      = State.releases d { s.operated d sector target kind w with follow := l } := by
  refine Eq.trans ?_ (released_after (t := { s.operated d sector target kind w with follow := l }) ?_ ?_ hb ?_)
  · simp only [enterStatus, postOp, post, readingOver, lapseController, modController, modTracker, State.operated,
      perDev_get_set, perDev_set_set, hrun]
    rfl
  · simp only [State.operated, perDev_get_set, hk]
  · simp only [State.operated, perDev_get_set]
    rfl
  · simp only [State.operated, perDev_get_set]
    rfl

/-- R86: a status word with a fail flag. -/
theorem completeOperation_failed (hw : statusFails w = true) :
    completeOperation d sector target w s = (s.operated d sector target .opFailed w).releases d :=
  (completeOperation_fails s sector target hw).trans (enterStatus_operated hk hrun hb sector target w .opFailed s.follow)

variable (hw : statusFails w = false)
include hw

/-- R86: a completion without a follow run. -/
theorem completeOperation_done (hf : followRunOf s d (s.tracker.get d).record = none) :
    completeOperation d sector target w s = (s.operated d sector target .opDone w).releases d :=
  (completeOperation_runless s sector target hw hf).trans
    (enterStatus_operated hk hrun hb sector target w .opDone s.follow)

/-- R18: a completion whose run is handed over. -/
theorem completeOperation_hands {run : FollowRun} (hf : followRunOf s d (s.tracker.get d).record = some run)
    (hl : ∀ z ∈ s.follow.waiting, z.dev ≠ d) (hfollow : s.follow.current = none → s.follow.waiting = []) :
    completeOperation d sector target w s = { (s.operated d sector target .opDone w).releases d with
      follow := if s.follow.current = none then { current := some run, waiting := [] }
        else { s.follow with waiting := s.follow.waiting ++ [run] } } := by
  have free : ¬ listHolds s d = true := fun g => by
    obtain ⟨z, hz, hd⟩ := listHolds_iff.mp g
    exact hl z hz hd
  rw [completeOperation_run s sector target hw hf, if_neg free,
    handOver_follow (s := postOp .opDone d target w (readingOver d s)) run hfollow, ← releases_follow]
  exact enterStatus_operated hk hrun hb sector target w .opDone _

end

/-- R18: a completion whose run is kept back. -/
theorem completeOperation_held {run : FollowRun} (sector target : Nat) {w : Word} (hw : statusFails w = false)
    (hf : followRunOf s d (s.tracker.get d).record = some run) (hl : ∃ z ∈ s.follow.waiting, z.dev = d) :
    completeOperation d sector target w s = { s with
      tracker := s.tracker.set d { s.tracker.get d with armed := false, reading := false, keptRun := some run }
      notices := s.notices.post (timeBase s)
        { kind := .opDone, device := some d, address := some target, entry := none, detail := w } } := by
  rw [completeOperation_run s sector target hw hf, if_pos (listHolds_iff.mpr hl)]
  simp only [postOp, post, readingOver, modTracker, perDev_get_set, perDev_set_set]
  rfl

/-! ### The suspension -/

/-- R121: the record in SUSPENDED, its status read over. -/
def State.arrived (d : Dev) (r : Record) (s : State) : State := { s with
  tracker := s.tracker.set d { s.tracker.get d with record := r, reading := false } }

/-- R124: a pending-resume raises its RESUME. -/
theorem arriveSuspended_pending (hk : (s.tracker.get d).kept = []) (sector target : Nat) (o : Owner)
    (e : Option EraseFields) : arriveSuspended d sector target o true e s
      = { s.arrived d (.suspended sector target o true e) with
          service := s.service.set d
            (some { work := .resume .pendingResume, addr := sectorBase sector, behind := hostWaiting s d }) } := by
  have nothing : releaseKept d { s.arrived d (.suspended sector target o true e) with
      service := s.service.set d
        (some { work := .resume .pendingResume, addr := sectorBase sector, behind := hostWaiting s d }) } = _ :=
    releaseKept_nothing _ d (by simp only [State.arrived, perDev_get_set, hk])
  exact nothing

/-- R123: a suspension of the host's releases the stalled burst. -/
theorem arriveSuspended_host (hk : (s.tracker.get d).kept = []) (hb : BypassesPass s d)
    (hc : (s.controller.get d).call = none) (sector target : Nat) (e : Option EraseFields) :
    arriveSuspended d sector target .host false e s
      = (s.arrived d (.suspended sector target .host false e)).releases d := by
  refine released_after (t := s.arrived d (.suspended sector target .host false e)) ?_ ?_ hb hc
  · simp only [State.arrived, perDev_get_set, hk]
  · simp only [State.arrived, perDev_get_set]
    rfl

/-- R123, R125: one of the part's starts both timers, and releases it. -/
theorem arriveSuspended_part (hk : (s.tracker.get d).kept = []) (hb : BypassesPass s d) (sector target : Nat)
    (e : Option EraseFields) : arriveSuspended d sector target .part false e s
      = State.releases d { s.arrived d (.suspended sector target .part false e) with
          controller := s.controller.set d { s.controller.get d with
            idleTimer := some s.clock, holdTimer := some s.clock, call := none } } := by
  refine released_after (t := { s.arrived d (.suspended sector target .part false e) with
    controller := s.controller.set d { s.controller.get d with
      idleTimer := some s.clock, holdTimer := some s.clock, call := none } }) ?_ ?_ hb ?_
  · simp only [State.arrived, perDev_get_set, hk]
  · simp only [State.arrived, perDev_get_set]
    rfl
  · simp only [perDev_get_set]

/-! ### The status read -/

section

variable {sector target : Nat} {w : Word}

theorem statusReadEnds_program {data : Word} (h : (s.tracker.get d).record = .busyProgram sector target data) :
    statusReadEnds d w s = if statusReady w then completeOperation d sector target w s else raiseStatusRead d sector s := by
  simp only [statusReadEnds, h]

theorem statusReadEnds_erase {e : Option EraseFields} (h : (s.tracker.get d).record = .busyErase sector target e) :
    statusReadEnds d w s = if (e.map (·.disabled)).getD false ∧ statusSuspended w then
        arriveSuspended d sector target .part false e (disarm d s)
      else if statusReady w then completeOperation d sector target w s else raiseStatusRead d sector s := by
  simp only [statusReadEnds, h]

theorem statusReadEnds_suspending {o : Owner} {p : Bool} {e : Option EraseFields}
    (h : (s.tracker.get d).record = .suspending sector target o p e) : statusReadEnds d w s
      = if statusSuspended w then arriveSuspended d sector target o p e s
        else if statusReady w then completeOperation d sector target w s else raiseStatusRead d sector s := by
  simp only [statusReadEnds, h]

end

/-- Settles O44. -/
theorem statusReadDecidesTheProgram : Obligations.StatusReadDecidesTheProgram := by
  intro s d words addr sector target hquiet hbypass hcall hk hrun hserv hbus w settled again suspended timed slots ends
    eraseEnds
  let u : State := { s with bus := none }
  have transaction : transactionEnds words s = statusReadEnds d w u := by
    simp only [transactionEnds, hbus]
    rfl
  have to_next : ∀ t : State, t.loader = s.loader → statusReadEnds d w u = t →
      exec (.memoryTransactionEnds words) s = .next t := by
    intro t hl h
    show attended (transactionEnds words s) = _
    rw [transaction, h]
    exact attended_quiet (.inl fun since g => hquiet since ((congrArg Loader.state hl).symm.trans g))
  have released_loader : ∀ t : State, (t.releases d).loader = t.loader := by
    intro t
    unfold State.releases
    split
    · split
      · split <;> rfl
      · rfl
    · rfl
  have ended : ∀ run, followRunOf s d (s.tracker.get d).record = run →
      statusReadEnds d w u = completeOperation d sector target w u → ends run := by
    intro run hf he
    refine ⟨fun hw => ?_, fun hw => ⟨?_, ?_⟩⟩
    · exact to_next _ (released_loader _)
        (he.trans (completeOperation_failed (s := u) hk hrun hbypass sector target w hw))
    · rintro rfl
      exact to_next _ (released_loader _)
        (he.trans (completeOperation_done (s := u) hk hrun hbypass sector target w hw hf))
    · rintro x rfl hfollow
      refine ⟨fun hz => ?_, fun hz => ?_⟩
      · exact to_next _ (released_loader (settled .opDone))
          (he.trans (completeOperation_hands (s := u) hk hrun hbypass sector target w hw hf hz hfollow))
      · exact to_next _ rfl (he.trans (completeOperation_held (s := u) sector target hw hf hz))
  have erase_ended : ((∃ target e, (s.tracker.get d).record = .busyErase sector target e)
      ∨ ∃ target o p e, (s.tracker.get d).record = .suspending sector target o p e) →
      statusReadEnds d w u = completeOperation d sector target w u → eraseEnds := by
    intro hr he
    refine ended _ ?_ he
    have same : slots = (activeEntries s.active).flatMap fun p => eraseSlots sector p.2 :=
      congrArg (fun f => (activeEntries s.active).flatMap f) (funext fun p => (eraseSlots_eq sector p.2).symm)
    rw [followRunOf_erase hr, same]
  refine ⟨fun data hr => ?_, fun e hr => ?_, fun o p e hr => ?_⟩
  · have read := statusReadEnds_program (s := u) (w := w) hr
    refine ⟨fun hw => ?_, fun hw => ?_⟩
    · rw [if_pos (show statusReady w = true from hw)] at read
      obtain ⟨runless, runs⟩ := followRunOf_program (s := s) (d := d) sector target data
      exact ⟨fun h => ended none (by rw [hr]; exact runless h) read,
        fun p e slot hl hs => ended _ (by rw [hr]; exact runs p e slot hl hs) read⟩
    · rw [if_neg (by rw [show statusReady w = false from hw]; exact Bool.false_ne_true)] at read
      exact to_next again rfl read
  · have read := statusReadEnds_erase (s := u) (w := w) hr
    refine ⟨fun x he hdis hw => ?_, fun hno => ?_⟩
    · subst he
      rw [if_pos ⟨hdis, hw⟩] at read
      have kept : ((disarm d u).tracker.get d).kept = [] := by
        simp only [disarm, modTracker, perDev_get_set]
        exact hk
      have late : { (disarm d u).arrived d (.suspended sector target .part false (some x)) with
          controller := s.controller.set d { s.controller.get d with
            idleTimer := some s.clock, holdTimer := some s.clock, call := none } }
          = timed (suspended .part false (some x) false) := by
        simp only [timed, suspended, State.arrived, disarm, modTracker, perDev_get_set, perDev_set_set]
        rfl
      refine to_next _ (released_loader _) (read.trans ?_)
      rw [← late]
      exact arriveSuspended_part (s := disarm d u) kept hbypass sector target (some x)
    · have other : ¬ ((e.map (·.disabled)).getD false = true ∧ statusSuspended w = true) := by
        rintro ⟨h1, h2⟩
        rcases hno with rfl | ⟨x, rfl, hx⟩ | hw
        · exact Bool.false_ne_true h1
        · exact Bool.false_ne_true (hx.symm.trans h1)
        · exact Bool.false_ne_true (hw.symm.trans h2)
      rw [if_neg other] at read
      refine ⟨fun hw => ?_, fun hw => ?_⟩
      · rw [if_pos (show statusReady w = true from hw)] at read
        exact erase_ended (.inl ⟨_, _, hr⟩) read
      · rw [if_neg (by rw [show statusReady w = false from hw]; exact Bool.false_ne_true)] at read
        exact to_next again rfl read
  · have read := statusReadEnds_suspending (s := u) (w := w) hr
    refine ⟨fun hw => ?_, fun hw => ?_⟩
    · rw [if_pos (show statusSuspended w = true from hw)] at read
      refine ⟨?_, ?_, ?_⟩
      · rintro rfl
        exact to_next _ rfl (read.trans (arriveSuspended_pending (s := u) hk sector target o e))
      · rintro rfl rfl
        exact to_next _ (released_loader _) (read.trans (arriveSuspended_host (s := u) hk hbypass hcall sector target e))
      · rintro rfl rfl
        exact to_next _ (released_loader _) (read.trans (arriveSuspended_part (s := u) hk hbypass sector target e))
    · rw [if_neg (by rw [show statusSuspended w = false from hw]; exact Bool.false_ne_true)] at read
      refine ⟨fun hw => ?_, fun hw => ?_⟩
      · rw [if_pos (show statusReady w = true from hw)] at read
        exact erase_ended (.inr ⟨_, _, _, _, hr⟩) read
      · rw [if_neg (by rw [show statusReady w = false from hw]; exact Bool.false_ne_true)] at read
        exact to_next again rfl read

end Sys2Proof.Machine
end

section
/-! PROOFS. The end of a memory transaction: words answered, put in the line buffer or discarded, and records moved (R59, R60,
R85, R89, R126, R134, R135, R145). -/

namespace Sys2Proof.Machine

set_option Elab.async false

variable {s : State} {d : Dev}

/-! ### The RESUME called for -/

/-- R126: the requests once a RESUME that is called for, and may be raised, has been. -/
def calledService (s : State) (d : Dev) : PerDev (Option ServiceReq) :=
  match (s.controller.get d).call, (s.tracker.get d).record with
  | some _, .suspended sector _ .part _ _ =>
    if s.service.get d = none ∧ readOutstanding s d = false then
      s.service.set d (some { work := .resume .timers, addr := sectorBase sector, behind := hostWaiting s d })
    else s.service
  | _, _ => s.service

theorem raiseCalledResume_eq (s : State) (d : Dev) : raiseCalledResume d s = { s with service := calledService s d } := by
  cases hr : (s.tracker.get d).record with
  | suspended sector target o p e =>
    cases o with
    | host => cases hc : (s.controller.get d).call <;> simp only [raiseCalledResume, calledService, hr, hc]
    | part =>
      cases hc : (s.controller.get d).call with
      | none => simp [raiseCalledResume, calledService, hr, hc]
      | some c =>
        by_cases h : s.service.get d = none ∧ readOutstanding s d = false
        · simp [raiseCalledResume, calledService, hr, hc, h, raiseService]
        · have blocked : ¬ ((s.service.get d).isNone = true ∧ ¬ readOutstanding s d = true) := by
            simpa using h
          simp only [raiseCalledResume, calledService, hr, hc, Option.isSome_some, true_and, blocked, h, if_false]
  | _ => cases hc : (s.controller.get d).call <;> simp only [raiseCalledResume, calledService, hr, hc]

/-- R126: a request that stands is not replaced. -/
theorem calledService_stands (h : ∃ q, s.service.dev0 = some q) : ∃ q, (calledService s d).dev0 = some q := by
  unfold calledService
  split
  · split
    · cases d with
      | dev0 => exact ⟨_, rfl⟩
      | dev1 => exact h
    · exact h
  · exact h

/-- R40, R41: a completion and the raising of a RESUME concern each other in nothing. -/
theorem reportCompletion_service (line : Nat) (q : PerDev (Option ServiceReq)) (s : State) :
    reportCompletion line { s with service := q } = { reportCompletion line s with service := q } := by
  let put (t : State) : State := { t with service := q }
  have follows : loaderFollows (switchBanks (put s)) = put (loaderFollows (switchBanks s)) := by
    cases hl : s.loader.state with
    | committing origin n =>
      exact (loaderFollows_committing (switchBanks (put s)) origin n hl rfl).trans
        (congrArg put (loaderFollows_committing (switchBanks s) origin n hl rfl)).symm
    | _ =>
      exact (loaderFollows_other (switchBanks (put s)) fun o n g => nomatch hl.symm.trans g).trans
        (congrArg put (loaderFollows_other (switchBanks s) fun o n g => nomatch hl.symm.trans g)).symm
  have same : (∀ t : State, t.commit = s.commit → reportCompletion line t = t)
      ∨ ∀ t : State, t.commit = s.commit → reportCompletion line t = loaderFollows (switchBanks t) := by
    cases hc : s.commit with
    | idle => exact .inl fun t h => by simp only [reportCompletion, h]
    | verifying f c => exact .inl fun t h => by simp only [reportCompletion, h]
    | pendingBoundary f => exact .inr fun t h => by simp only [reportCompletion, h]
    | pendingMark f since =>
      cases hm : f.mode with
      | immediate => exact .inl fun t h => by simp only [reportCompletion, h, hm]
      | atMark mark expiry =>
        by_cases hl : mark = line
        · exact .inr fun t h => by simp only [reportCompletion, h, hm, hl, if_true]
        · exact .inl fun t h => by simp only [reportCompletion, h, hm, hl, if_false]
  rcases same with same | same
  · exact (same (put s) rfl).trans (congrArg put (same s rfl)).symm
  · exact (same (put s) rfl).trans (follows.trans (congrArg put (same s rfl)).symm)

/-- R177, R180: a completion leaves the loader nothing to do to device 0's record. -/
theorem reportCompletion_passive (line : Nat) (h : LoaderPassive s) : LoaderPassive (reportCompletion line s) := by
  rcases reportCompletion_cases s line with ⟨-, e⟩ | e <;> rw [e]
  · rcases loaderFollows_cases (switchBanks s) with ⟨origin, n, -, -, e⟩ | e <;> rw [e]
    · exact fun since g => nomatch g
    · exact h.of rfl rfl id
  · exact h

/-! ### The end of a burst's read -/

/-- R134, R135: the burst answered and counted, its RESUME raised, and the completion reported. -/
theorem hostReadEnds_answers {a n : Nat} {words : LineWords} {r : ReadRecord} (h : s.host.transaction = .read r) :
    hostReadEnds a n false words s = reportCompletion r.line
      { countHit r (s.answeredBurst (firstWords words n)) with service := calledService s (devOf a) } := by
  let counted : State := countHit r (s.answeredBurst (firstWords words n))
  have service : calledService (reportCompletion r.line counted) (devOf a) = calledService s (devOf a) := by
    have hcounted : ∃ b, counted = { s.answeredBurst (firstWords words n) with active := b } := by
      rcases countHit_cases (s.answeredBurst (firstWords words n)) r with ⟨i, x, -, e⟩ | e
      · exact ⟨_, e⟩
      · exact ⟨s.active, e⟩
    obtain ⟨b, hcounted⟩ := hcounted
    rcases reportCompletion_cases counted r.line with ⟨-, e⟩ | e <;> rw [e]
    · rcases loaderFollows_cases (switchBanks counted) with ⟨origin, m, -, -, e⟩ | e <;> rw [e, hcounted] <;> rfl
    · rw [hcounted]
      rfl
  have ends : hostReadEnds a n false words s = raiseCalledResume (devOf a) (reportCompletion r.line counted) := by
    simp only [hostReadEnds, h]
    rfl
  rw [ends, raiseCalledResume_eq, service, ← reportCompletion_service]

/-! ### The fill line -/

theorem portRefusal_iff {slot : Nat} : (portRefusal s slot).isSome = true
    ↔ live s slot = true ∨ stagedProtected s slot = true := by
  unfold portRefusal
  cases live s slot <;> cases stagedProtected s slot <;> simp

theorem fillLineRead_refused {j : FillJob} {words : LineWords} (hj : s.fill.job = some j)
    (h : live s (j.firstSlot + s.fill.progress) = true ∨ stagedProtected s (j.firstSlot + s.fill.progress) = true) :
    fillLineRead words s = fillFails j .cleared s := by
  simp only [fillLineRead, hj]
  exact if_pos (portRefusal_iff.mpr h)

theorem fillLineRead_taken {j : FillJob} {words : LineWords} (hj : s.fill.job = some j)
    (h : live s (j.firstSlot + s.fill.progress) = false) (g : stagedProtected s (j.firstSlot + s.fill.progress) = false) :
    fillLineRead words s = { s with fill := { s.fill with job := some { j with stage := .writing words 0 } } } := by
  simp only [fillLineRead, hj]
  refine if_neg fun k => ?_
  rcases portRefusal_iff.mp k with k | k
  · exact Bool.false_ne_true (h.symm.trans k)
  · exact Bool.false_ne_true (g.symm.trans k)

/-! ### The statement -/

/-- Settles O45. -/
theorem transactionEndDeliversItsWords : Obligations.TransactionEndDeliversItsWords := by
  intro s words a n bypass resumed
  let u : State := { s with bus := none }
  have resumed_eq : ∀ t : State, t.service = s.service → resumed t = { t with service := calledService u (devOf a) } := by
    intro t ht
    have same : t = { t with service := s.service } := by rw [← ht]
    simp only [resumed, calledService]
    cases hr : (s.tracker.get (devOf a)).record with
    | suspended sector target o p e =>
      cases o with
      | host =>
        cases hc : (s.controller.get (devOf a)).call with
        | none => exact same
        | some c => exact same
      | part =>
        cases hc : (s.controller.get (devOf a)).call with
        | none => exact same
        | some c =>
          by_cases h : s.service.get (devOf a) = none ∧ readOutstanding u (devOf a) = false
          · exact (if_pos h).trans (congrArg (fun q => { t with service := q }) (if_pos h).symm)
          · exact (if_neg h).trans (same.trans (congrArg (fun q => { t with service := q }) (if_neg h).symm))
    | _ =>
      cases hc : (s.controller.get (devOf a)).call with
      | none => exact same
      | some c => exact same
  have passive_of : LoaderPassive s → ∀ t : State, t.loader = s.loader → t.tracker.dev0.record = s.tracker.dev0.record →
      t.service = s.service → LoaderPassive t := fun p t hl hr hs => p.of hl hr (by rw [hs]; exact id)
  have ends : ∀ {t v : State}, transactionEnds words s = v → v = t → LoaderPassive t →
      exec (.memoryTransactionEnds words) s = .next t := by
    intro t v h hv hp
    show attended (transactionEnds words s) = _
    rw [h, hv, attended_passive hp]
  have service_ends : ∀ {d : Dev} {w : ServiceWork} {b : Nat}, s.bus = some (.service d w b) →
      transactionEnds words s = serviceEnds d w words u := fun h => by
    simp only [transactionEnds, h]
    rfl
  have host_ends : ∀ {x : HostTxn}, s.bus = some (.host x) → transactionEnds words s = hostEnds x words u := fun h => by
    simp only [transactionEnds, h]
    rfl
  have raised : ∀ (t : State), t.loader = s.loader → t.tracker = s.tracker → t.service = calledService u (devOf a) →
      LoaderPassive s → LoaderPassive t := fun t hl hr hs p =>
    p.of hl (by rw [hr]) (by rw [hs]; exact calledService_stands (s := u))
  refine ⟨fun r hp hb ht => ?_, fun hp hb => ?_, fun j hp hb hj => ?_, fun d => ?_⟩
  · intro done
    have answered : done = { u.answeredBurst (firstWords words n) with service := calledService u (devOf a) } :=
      resumed_eq _ rfl
    have completes : ∀ t : State, { countHit r (u.answeredBurst (firstWords words n)) with
        service := calledService u (devOf a) } = t → t.loader = s.loader → t.tracker = s.tracker →
        t.service = calledService u (devOf a) → CompletesRead r.line t (exec (.memoryTransactionEnds words) s) := by
      intro t h hl hr hs
      have ended : transactionEnds words s = reportCompletion r.line t :=
        (host_ends hb).trans ((hostReadEnds_answers (s := u) ht).trans (congrArg (reportCompletion r.line) h))
      rw [ends ended rfl (reportCompletion_passive r.line (raised t hl hr hs hp))]
      exact reportCompletion_completes t r.line
    refine ⟨fun hcls => ?_, fun p m k e hcls ha => ?_, fun p m k hcls ha => ?_⟩
    · refine completes done ?_ (by rw [answered]; rfl) (by rw [answered]; rfl) (by rw [answered])
      rw [countHit_other _ r hcls, answered]
    · have hit := countHit_hit (u.answeredBurst (firstWords words n)) r p k m e hcls ha
      by_cases hg : r.generation = s.generation
      · rw [if_pos hg]
        refine completes (done.counted p e) ?_ (by rw [answered]; rfl) (by rw [answered]; rfl) (by rw [answered]; rfl)
        rw [hit, if_pos (show r.generation = (u.answeredBurst (firstWords words n)).generation from hg), answered]
        rfl
      · rw [if_neg hg]
        refine completes done ?_ (by rw [answered]; rfl) (by rw [answered]; rfl) (by rw [answered])
        rw [hit, if_neg (show ¬ r.generation = (u.answeredBurst (firstWords words n)).generation from hg), answered]
    · refine completes done ?_ (by rw [answered]; rfl) (by rw [answered]; rfl) (by rw [answered])
      rw [countHit_absent (u.answeredBurst (firstWords words n)) r p k m hcls ha, answered]
  · have discards : hostEnds (.read a n bypass true) words u = { u with service := calledService u (devOf a) } :=
      raiseCalledResume_eq u (devOf a)
    refine ends (host_ends hb) (discards.trans (resumed_eq u rfl).symm) ?_
    rw [resumed_eq u rfl]
    exact raised _ rfl rfl rfl hp
  · have fills : transactionEnds words s = fillLineRead words u := by
      simp only [transactionEnds, hb]
      rfl
    refine ⟨fun hl hpr => ?_, fun h => ?_⟩
    · exact ends fills (fillLineRead_taken (s := u) hj hl hpr) (passive_of hp _ rfl rfl rfl)
    · exact ends fills (fillLineRead_refused (s := u) hj h) (passive_of hp _ rfl rfl rfl)
  · intro ended
    have armed : arm d u = ended (s.tracker.get d).record := rfl
    have passive_armed : LoaderPassive s → LoaderPassive (ended (s.tracker.get d).record) := fun hp =>
      passive_of hp _ rfl (by cases d <;> rfl) rfl
    refine ⟨fun held hw b w hp hb hd => ?_, fun b hp hb hd => ?_, fun b w hp hb hw => ?_, fun cause b hb hk => ⟨fun hc hp => ?_,
      fun sector target o p e hc hp hr => ?_⟩, fun c b sector hp hb hk hr => ?_, fun b hp hb => ?_, fun b hp hb => ?_⟩
    · subst hd
      exact ends (host_ends hb) armed (passive_armed hp)
    · subst hd
      exact ends (host_ends hb) armed (passive_armed hp)
    · exact ends (host_ends hb) (if_neg hw) (passive_of hp _ rfl rfl rfl)
    · have kept : ((ended (s.tracker.get d).record).tracker.get d).kept = [] := by
        simp only [ended, perDev_get_set, hk]
      refine ends (service_ends hb) ?_ (passive_armed hp)
      cases cause with
      | cleanup => exact absurd rfl hc
      | loader => exact releaseKept_nothing _ d kept
      | timers => rfl
      | pendingResume => rfl
    · subst hc
      have moved : setRecord d (.busyErase sector target e) (arm d u) = ended (.busyErase sector target e) := by
        simp only [setRecord, arm, modTracker, perDev_get_set, perDev_set_set]
        rfl
      have kept : ((ended (.busyErase sector target e)).tracker.get d).kept = [] := by
        simp only [ended, perDev_get_set, hk]
      refine ends (service_ends hb) ((resumeEnds_suspended u hr).trans (by rw [moved, releaseKept_nothing _ d kept])) ?_
      cases d with
      | dev0 => exact fun since _ => trivial
      | dev1 => exact passive_of (hp.resolve_right nofun) _ rfl rfl rfl
    · have kept : ((u.withRecord d .array).tracker.get d).kept = [] := by
        simp only [State.withRecord, perDev_get_set]
        exact hk
      refine ends (service_ends hb) ((arrayWriteEnds_status u hr).trans (releaseKept_nothing (u.withRecord d .array) d kept)) ?_
      cases d with
      | dev0 => exact fun since _ => trivial
      | dev1 => exact passive_of (hp.resolve_right nofun) _ rfl rfl rfl
    · exact ends (service_ends hb) rfl (passive_of hp _ rfl rfl rfl)
    · exact ends (service_ends hb) rfl (passive_of hp _ rfl rfl rfl)

end Sys2Proof.Machine
end

section
/-! PROOFS. The store port: whose access it takes, and what each access does (R16 to R18, R36, R50 to R55, R59 to R62, R134). -/

namespace Sys2Proof.Machine

set_option Elab.async false

variable {s : State}

/-! ### The choice -/

theorem readPathAccess_none (hd : s.host.dropped = none) (h : ∀ r, s.host.transaction = .read r → r.stage ≠ .store) :
    readPathAccess s = none := by
  simp only [readPathAccess, hd, Option.isSome_none, Bool.false_eq_true, if_false]
  split
  · rename_i r ht
    split
    · exact absurd ‹_› (h r ht)
    · rfl
  · rfl

theorem verifyAccess_none (h : ∀ f c, s.commit ≠ .verifying f c) : verifyAccess s = none := by
  simp only [verifyAccess]

theorem fillAccess_none (h : ∀ j b o, s.fill.job = some j → j.stage ≠ .writing b o) : fillAccess s = none := by
  simp only [fillAccess]
  split
  · split
    · exact absurd ‹_› (h _ _ _ ‹_›)
    · rfl
  · rfl

theorem loaderAccess_none (h : ∀ og i p b w, s.loader.state ≠ .applying og i p b w) : loaderAccess s = none := by
  simp only [loaderAccess]

/-- Settles O46: each place in the order, those before it having no access that waits. -/
theorem storePortTakesTheHighestRequester : Obligations.StorePortTakesTheHighestRequester := by
  refine fun s => ⟨fun a ha => ?_, fun hd => ⟨fun r p slot follow check k ht hs hc => ?_, fun hread => ⟨fun run hr => ?_,
    fun hf => ⟨fun f c hc => ?_, fun hv => ⟨fun j b o hj hs => ?_, fun hfill => ⟨fun og i p b w hl => ?_, fun hload =>
    ⟨fun p hp => ?_, fun hp => ?_⟩⟩⟩⟩⟩⟩⟩
  · simp [portChoice, readPathAccess, ha]
  · simp [portChoice, readPathAccess, hd, ht, hs, hc]
  all_goals have path := readPathAccess_none hd hread
  · simp [portChoice, path, hr]
  · simp [portChoice, path, hf, verifyAccess, hc]
  all_goals have verify := verifyAccess_none hv
  · simp [portChoice, path, hf, verify, fillAccess, hj, hs]
  all_goals have fill := fillAccess_none hfill
  · simp [portChoice, path, hf, verify, fill, loaderAccess, hl]
  all_goals have loader := loaderAccess_none hload
  · simp [portChoice, path, hf, verify, fill, loader, hp]
  · simp [portChoice, path, hf, verify, fill, loader, hp]

end Sys2Proof.Machine
end

section
/-! PROOFS. The accesses of the store port, requester by requester. -/

namespace Sys2Proof.Machine

set_option Elab.async false

variable {s : State}

/-- R50: the access taken is applied whole; an idle loader follows nothing. -/
theorem exec_port {a : PortAccess} {t : State} (h : portChoice s = some a) (ht : takeAccess a s = t)
    (hl : attended t = .next t) : exec .storePortAccess s = .next t := by
  show attended (portAccess s) = _
  rw [portAccess, h]
  show attended (takeAccess a s) = _
  rw [ht, hl]

/-! ### The read path -/

theorem readStoreWord_more {r : ReadRecord} {slot k : Nat} (h : s.host.dataOut.length + 1 < r.count) :
    readStoreWord r slot k s = { s with host := { s.host with dataOut := s.host.dataOut
      ++ [s.store.read ((slot + k) * 16 + (r.addr % 16 + s.host.dataOut.length))] } } := by
  have more : (s.host.dataOut
      ++ [s.store.read ((slot + k) * 16 + (r.addr % 16 + s.host.dataOut.length))]).length < r.count := by
    rw [List.length_append]
    exact h
  exact if_pos more

theorem readStoreWord_last {r : ReadRecord} {slot k : Nat} (h : r.count ≤ s.host.dataOut.length + 1) :
    readStoreWord r slot k s = completeRead r (s.host.dataOut
      ++ [s.store.read ((slot + k) * 16 + (r.addr % 16 + s.host.dataOut.length))]) s := by
  have last : ¬ (s.host.dataOut
      ++ [s.store.read ((slot + k) * 16 + (r.addr % 16 + s.host.dataOut.length))]).length < r.count := by
    rw [List.length_append]
    exact Nat.not_lt.mpr h
  exact if_neg last

/-- R135: a completion that counts as `t` is the completion of `t`. -/
theorem completeRead_completes {r : ReadRecord} {words : List Word} {t : State} (hl : LoaderIdle s)
    (h : countHit r (s.answeredBurst words) = t) : CompletesRead r.line t (attended (completeRead r words s)) := by
  rw [attended_idle (completeRead_loaderIdle s r words hl)]
  show CompletesRead r.line t (.next (reportCompletion r.line (countHit r (s.answeredBurst words))))
  rw [h]
  exact reportCompletion_completes t r.line

/-! ### Follow runs -/

/-- R18: nothing is handed over for a record that keeps no run back, or whose device still has one in the list. -/
theorem handKeptRun_nothing {d : Dev} (h : (s.tracker.get d).keptRun = none ∨ ∃ z ∈ s.follow.waiting, z.dev = d) :
    handKeptRun d s = s := by
  simp only [handKeptRun]
  split
  · rename_i run sector hrun _
    exact if_pos (listHolds_iff.mpr (h.resolve_left fun g => nomatch g.symm.trans hrun))
  · rfl

theorem handKeptRun_hands {d : Dev} {run : FollowRun} {sector : Nat} (hrun : (s.tracker.get d).keptRun = some run)
    (hs : (s.tracker.get d).record.commandSector = some sector) (hz : ∀ z ∈ s.follow.waiting, z.dev ≠ d) :
    handKeptRun d s = enterStatus d sector (handOver run s) := by
  simp only [handKeptRun, hrun, hs]
  refine if_neg fun g => ?_
  obtain ⟨z, hm, hd⟩ := listHolds_iff.mp g
  exact hz z hm hd

/-- R18: the run in progress has ended and the next one, if any, begins. -/
def State.nextRun (s : State) : State := { s with follow :=
  match s.follow.waiting with
  | [] => { current := none, waiting := [] }
  | run :: more => { current := some run, waiting := more } }

theorem beginRun_next : beginRun { s with follow := { s.follow with current := none } } = s.nextRun := by
  cases hw : s.follow.waiting with
  | nil => simp only [beginRun, State.nextRun, hw]
  | cons run more => simp only [beginRun, State.nextRun, hw]

theorem followRunEnds_unkept (h : ∀ d, (s.tracker.get d).keptRun = none) : followRunEnds s = s.nextRun := by
  rw [followRunEnds, beginRun_next, handKeptRun_nothing (s := s.nextRun) (.inl (h _)),
    handKeptRun_nothing (s := s.nextRun) (.inl (h _))]

/-- R86, R18: the state in which a run kept back has been handed over and its record has entered STATUS. -/
def State.handed (d : Dev) (run : FollowRun) (sector : Nat) (s : State) : State := { s with
  follow := { s.follow with waiting := s.follow.waiting ++ [run] }
  tracker := s.tracker.set d { s.tracker.get d with
    record := .status sector, armed := false, reading := false, keptRun := none }
  controller := s.controller.set d Controller.lapsed }

theorem enterStatus_hands {d : Dev} {run x : FollowRun} {sector : Nat} (hc : s.follow.current = some x)
    (hk : (s.tracker.get d).kept = []) (hb : BypassesPass s d) :
    enterStatus d sector (handOver run s) = (s.handed d run sector).releases d := by
  have waits : handOver run s = { s with follow := { s.follow with waiting := s.follow.waiting ++ [run] } } := by
    simp only [handOver, beginRun, hc]
  rw [waits]
  refine released_after (t := s.handed d run sector) ?_ ?_ hb ?_
  · simp only [State.handed, perDev_get_set, hk]
  · simp only [State.handed, perDev_get_set]
    rfl
  · simp only [State.handed, perDev_get_set]
    rfl

theorem releases_tracker (d : Dev) (s : State) : (s.releases d).tracker = s.tracker ∧ (s.releases d).follow = s.follow
    ∧ (s.releases d).loader = s.loader := by
  unfold State.releases
  split
  · split
    · split <;> exact ⟨rfl, rfl, rfl⟩
    · exact ⟨rfl, rfl, rfl⟩
  · exact ⟨rfl, rfl, rfl⟩

/-- R18: a record whose run is kept back has it handed over once the list holds none of its device, the other record's being
none or held still. -/
theorem followRunEnds_hands {d : Dev} {run x : FollowRun} {sector : Nat} {more : List FollowRun}
    (hw : s.follow.waiting = x :: more) (hrun : (s.tracker.get d).keptRun = some run)
    (hs : (s.tracker.get d).record.commandSector = some sector) (hk : (s.tracker.get d).kept = []) (hb : BypassesPass s d)
    (hy : ∀ y, y ≠ d → (s.tracker.get y).keptRun = none ∨ ∃ z ∈ more, z.dev = y) :
    ((∃ z ∈ more, z.dev = d) → followRunEnds s = s.nextRun)
    ∧ ((∀ z ∈ more, z.dev ≠ d) → followRunEnds s = (s.nextRun.handed d run sector).releases d) := by
  have next : s.nextRun.follow = { current := some x, waiting := more } := by simp only [State.nextRun, hw]
  have other : ∀ y, y ≠ d → handKeptRun y s.nextRun = s.nextRun := fun y h =>
    handKeptRun_nothing ((hy y h).imp_right (by rw [next]; exact id))
  refine ⟨fun hz => ?_, fun hz => ?_⟩
  · have all : ∀ y, handKeptRun y s.nextRun = s.nextRun := fun y => by
      by_cases h : y = d
      · subst h
        exact handKeptRun_nothing (.inr (by rw [next]; exact hz))
      · exact other y h
    rw [followRunEnds, beginRun_next, all, all]
  · have hands : handKeptRun d s.nextRun = (s.nextRun.handed d run sector).releases d := by
      rw [handKeptRun_hands (s := s.nextRun) hrun hs (by rw [next]; exact hz)]
      exact enterStatus_hands (by rw [next]) hk hb
    have left : ∀ y, y ≠ d → handKeptRun y ((s.nextRun.handed d run sector).releases d)
        = (s.nextRun.handed d run sector).releases d := by
      intro y h
      obtain ⟨tracker, follow, -⟩ := releases_tracker d (s.nextRun.handed d run sector)
      refine handKeptRun_nothing ?_
      rw [tracker, follow]
      refine (hy y h).imp (fun g => ?_) fun ⟨z, hm, hd⟩ => ⟨z, ?_, hd⟩
      · rw [State.handed, perDev_get_set_other _ _ _ h]
        exact g
      · show z ∈ s.nextRun.follow.waiting ++ [run]
        rw [next]
        exact List.mem_append_left _ hm
    rw [followRunEnds, beginRun_next]
    cases d with
    | dev0 => rw [hands, left .dev1 nofun]
    | dev1 => rw [other .dev0 nofun, hands]

theorem followWrite_erase_next {d : Dev} {slot o : Nat} {rest : List Nat} (h : o < 15) :
    followWrite (.erase d (slot :: rest) o) s = { s with
      store := s.store.write (slot * 16 + o) 0xFFFF
      follow := { s.follow with current := some (.erase d (slot :: rest) (o + 1)) } } := if_pos h

theorem followWrite_erase_slot {d : Dev} {slot o : Nat} {rest : List Nat} (h : 15 ≤ o) (hr : rest ≠ []) :
    followWrite (.erase d (slot :: rest) o) s = { s with
      store := s.store.write (slot * 16 + o) 0xFFFF
      follow := { s.follow with current := some (.erase d rest 0) } } :=
  (if_neg (Nat.not_lt.mpr h)).trans (if_neg hr)

theorem followWrite_erase_last {d : Dev} {slot o : Nat} (h : 15 ≤ o) : followWrite (.erase d [slot] o) s
    = followRunEnds { s with store := s.store.write (slot * 16 + o) 0xFFFF } :=
  (if_neg (Nat.not_lt.mpr h)).trans (if_pos rfl)

theorem followWrite_program {d : Dev} {slot o : Nat} {data : Word} : followWrite (.program d slot o data) s
    = followRunEnds { s with store := s.store.write (slot * 16 + o) (s.store.read (slot * 16 + o) &&& data) } := rfl

/-! ### Verification -/

section

variable {f : InFlight} {c : Cursor} {e : Entry} {slot : Nat} {follow : Bool} {want : Word}
  (hs : stagedAt s.staged c.position = some e) (hm : e.mode = .replace slot follow (some want))
include hs hm

theorem verifyWord_eq : verifyWord f c s
    = if c.index + 1 < e.lineCount * 16 then
        { s with commit := .verifying f { c with
            index := c.index + 1, check := crcWord c.check (s.store.read (slot * 16 + c.index)) } }
      else if crcWord c.check (s.store.read (slot * 16 + c.index)) = want then verifyFrom f (c.position + 1) s
      else { s with
        commit := .idle
        notices := s.notices.post (timeBase s)
          { kind := .commitRejected, device := none, address := none, entry := some c.position, detail := 5 } } := by
  have checked : e.checked = some (slot, want) := by simp only [Entry.checked, hm]
  simp only [verifyWord, hs, checked]
  rfl

end

theorem verifyFrom_next {f : InFlight} {p q : Nat} (h : nextChecked s.staged p = some q) :
    verifyFrom f p s = { s with commit := .verifying f { position := q, index := 0, check := 0xFFFF } } := by
  simp only [verifyFrom, h]
  rfl

theorem verifyFrom_ends {f : InFlight} {p : Nat} (h : nextChecked s.staged p = none) :
    verifyFrom f p s = verificationEnds f s := by
  simp only [verifyFrom, h]

theorem verificationEnds_switch {f : InFlight} (hm : f.mode = .immediate) (hr : readInProgress s = false) :
    verificationEnds f s = s.switched := by
  simp only [verificationEnds, hm, hr, Bool.false_eq_true, if_false]
  rfl

theorem verificationEnds_boundary {f : InFlight} (hm : f.mode = .immediate) (hr : readInProgress s = true) :
    verificationEnds f s = { s with commit := .pendingBoundary f } := by
  simp only [verificationEnds, hm, hr, if_true]

theorem verificationEnds_mark {f : InFlight} {mark expiry : Nat} (hm : f.mode = .atMark mark expiry) :
    verificationEnds f s = { s with commit := .pendingMark f s.clock } := by
  simp only [verificationEnds, hm]

/-- R139: nothing held, or load hold still on, nothing is taken. -/
theorem takeHeld_nothing (h : s.host.loadHold = true ∨ ((∀ addr n, s.host.transaction ≠ .heldRead addr n)
    ∧ ∀ addr w, s.host.transaction ≠ .heldWrite addr w)) : takeHeld s = s := by
  unfold takeHeld
  rcases h with h | ⟨hr, hw⟩
  · exact if_pos (.inl h)
  · split
    · rfl
    · split
      · exact absurd ‹_› (hr _ _)
      · exact absurd ‹_› (hw _ _)
      · rfl

/-- R177: a load whose commit goes on follows nothing. -/
theorem loaderFollows_inFlight (h : s.commit ≠ .idle) : loaderFollows s = s := by
  simp only [loaderFollows]
  split
  · exact if_neg h
  · rfl

end Sys2Proof.Machine
end

section
/-! PROOFS. The fill engine and the management link at the store port, and all accesses together. -/

namespace Sys2Proof.Machine

set_option Elab.async false

variable {s : State}

/-! ### The fill engine -/

theorem portRefusal_none_iff {slot : Nat} (h : live s slot = false) (g : stagedProtected s slot = false) :
    portRefusal s slot = none := by
  simp [portRefusal, h, g]

/-- R59: the word of a fill line is stored and folded into the check value. -/
theorem fillWrite_next {j : FillJob} {buffer : LineWords} {o : Nat} (h : o < 16)
    (hl : live s (j.firstSlot + s.fill.progress) = false) (hp : stagedProtected s (j.firstSlot + s.fill.progress) = false) :
    fillWrite j buffer o s = if o < 15 then { s with
        store := s.store.write ((j.firstSlot + s.fill.progress) * 16 + o) buffer[o]
        fill := { s.fill with
          job := some { j with check := crcWord j.check buffer[o], stage := .writing buffer (o + 1) } } }
      else fillLineDone { j with check := crcWord j.check buffer[o] } { s with
        store := s.store.write ((j.firstSlot + s.fill.progress) * 16 + o) buffer[o] } := by
  have word : (buffer[o]?).getD 0 = buffer[o] := by simp [h]
  refine (if_neg (by simp [portRefusal_none_iff hl hp])).trans ?_
  simp only [word]
  rfl

theorem fillLineDone_aborted {j : FillJob} {cause : AbortCause} (h : j.abort = some cause) : fillLineDone j s
    = fillFails j cause { s with fill := { s.fill with progress := s.fill.progress + 1 } } := by
  simp only [fillLineDone, h]

theorem fillLineDone_next {j : FillJob} (h : j.abort = none) (hn : s.fill.progress + 1 ≠ j.lineCount) :
    fillLineDone j s = { s with
      fill := { job := some { j with stage := .waiting }, progress := s.fill.progress + 1 } } := by
  simp only [fillLineDone, h]
  exact if_neg hn

theorem fillLineDone_ends {j : FillJob} (h : j.abort = none) (hn : s.fill.progress + 1 = j.lineCount) :
    fillLineDone j s = fillEnds j { s with fill := { s.fill with progress := s.fill.progress + 1 } } := by
  simp only [fillLineDone, h]
  exact if_pos hn

theorem updateCheck_replace {t first : Nat} {value : Word} {e : Entry} {follow : Bool} {old : Option Word}
    (hc : s.commit = .idle) (hs : stagedAt s.staged t = some e) (hm : e.mode = .replace first follow old) :
    updateCheck t value s = { s with
      staged := s.staged.setIfInBounds t (some { e with mode := .replace first follow (some value) }) } := by
  simp only [updateCheck, hc, hs, hm, if_true]

theorem updateCheck_nothing {t : Nat} {value : Word} (h : s.commit ≠ .idle
    ∨ ∀ e first follow old, stagedAt s.staged t = some e → e.mode ≠ .replace first follow old) :
    updateCheck t value s = s := by
  unfold updateCheck
  split
  · split
    · split
      · exact absurd ‹_› (h.resolve_left (not_not_intro ‹_›) _ _ _ _ ‹_›)
      · rfl
    · rfl
  · rfl

/-- R61: FILL_DONE, and the engine IDLE. -/
def State.fillDone (j : FillJob) (s : State) : State := { s with
  fill := { s.fill with job := none }
  notices := s.notices.post (timeBase s)
    { kind := .fillDone, device := some (devOfLine j.firstLine), address := some j.firstLine, entry := j.target,
      detail := j.check } }

theorem fillEnds_checked {j : FillJob} {t : Nat} (h : j.target = some t) :
    fillEnds j s = (updateCheck t j.check s).fillDone j := by
  simp only [fillEnds, h, State.fillDone]
  rfl

theorem fillEnds_unchecked {j : FillJob} (h : ∀ t, j.target = some t → updateCheck t j.check s = s) :
    fillEnds j s = s.fillDone j := by
  cases ht : j.target with
  | none => simp only [fillEnds, ht, State.fillDone]; rfl
  | some t => rw [fillEnds_checked ht, h t ht]

/-! ### The management link -/

/-- R53, R55: one word is read and the pointer advances. -/
theorem managementAccess_read {p : Processing} {n : Nat} {words : List Word} (hw : p.work = .read (n + 1) words) :
    (n ≠ 0 → s.ptr.next.slot ≠ 2048 → managementAccess p s = { s with
      ptr := s.ptr.next
      link := { s.link with processing := some { p with
        work := .read n (words ++ [s.store.read (s.ptr.slot * 16 + s.ptr.offset)]) } } })
    ∧ (n = 0 ∨ s.ptr.next.slot = 2048 → managementAccess p s = endProcessing p
        (if n = 0 then .ok else .badArg,
          readPayload (words ++ [s.store.read (s.ptr.slot * 16 + s.ptr.offset)]) { s with ptr := s.ptr.next })
        { s with ptr := s.ptr.next }) := by
  refine ⟨fun hn he => ?_, fun h => ?_⟩
  · simp only [managementAccess, hw, storeWork, hn, mt (atEnd_iff s.ptr.next).mp he, Bool.false_eq_true, if_false]
    rfl
  · by_cases hn : n = 0
    · simp only [managementAccess, hw, storeWork, hn, if_true]
      rfl
    · simp only [managementAccess, hw, storeWork, hn, (atEnd_iff s.ptr.next).mpr (h.resolve_left hn), if_true, if_false]
      rfl

/-- R53, R54: one word of several is written and the pointer advances, or the port refuses it. -/
theorem managementAccess_write {p : Processing} {w x : Word} {rest : List Word} {count : Nat}
    (hw : p.work = .write (w :: x :: rest) count) :
    (portRefusal s s.ptr.slot = none → s.ptr.next.slot ≠ 2048 → managementAccess p s = { s with
      store := s.store.write (s.ptr.slot * 16 + s.ptr.offset) w
      ptr := s.ptr.next
      link := { s.link with processing := some { p with work := .write (x :: rest) (count + 1) } } })
    ∧ (portRefusal s s.ptr.slot = none → s.ptr.next.slot = 2048 → managementAccess p s = endProcessing p
        (.badArg, be16 (count + 1) ++ be16 s.ptr.next.slot ++ be8 s.ptr.next.offset)
        { s with store := s.store.write (s.ptr.slot * 16 + s.ptr.offset) w, ptr := s.ptr.next })
    ∧ ∀ status, portRefusal s s.ptr.slot = some status → managementAccess p s
        = endProcessing p (status, be16 count ++ be16 s.ptr.slot ++ be8 s.ptr.offset) s := by
  have left : x :: rest ≠ [] := List.cons_ne_nil x rest
  refine ⟨fun hp he => ?_, fun hp he => ?_, fun status hp => ?_⟩
  · have before : ¬ (storeWrite s.ptr.slot s.ptr.offset w s).ptr.next.atEnd = true := mt (atEnd_iff s.ptr.next).mp he
    simp only [managementAccess, hw, storeWork, hp, left, before, Bool.false_eq_true, if_false]
    rfl
  · have ended : (storeWrite s.ptr.slot s.ptr.offset w s).ptr.next.atEnd = true := (atEnd_iff s.ptr.next).mpr he
    simp only [managementAccess, hw, storeWork, hp, left, ended, if_true, if_false]
    rfl
  · simp only [managementAccess, hw, storeWork, hp]
    rfl

theorem endProcessing_answered {p : Processing} {r : Reply} (hp : p.superseded = false) (hw : s.link.waiting = none)
    (hq : s.link.pendingResponse = none) : endProcessing p r s = { s with link := { s.link with
      processing := none
      slot := some { response := { tag := p.frame.tag, status := r.1, payload := r.2 }, position := 0 } } } :=
  (endProcessing_alone s p r hw hq).trans (if_neg (by simp [hp]))

theorem portRefusal_some (h : live s s.ptr.slot = true ∨ stagedProtected s s.ptr.slot = true) :
    portRefusal s s.ptr.slot = some (if live s s.ptr.slot then .refusedLive else .refusedState) := by
  unfold portRefusal
  by_cases hl : live s s.ptr.slot = true
  · rw [if_pos hl, if_pos hl]
  · rw [if_neg hl, if_neg hl, if_pos (h.resolve_left hl)]

/-- Settles O47. -/
theorem storePortAppliesTheAccess : Obligations.StorePortAppliesTheAccess := by
  intro s
  refine ⟨fun hidle => ⟨?_, ?_, ?_, ?_, ?_, ?_, ?_, ?_⟩, ?_, fun hp hc => ?_⟩
  · intro r slot k hport w done
    have access : exec .storePortAccess s = attended (readStoreWord r slot k s) := by
      show attended (portAccess s) = _
      rw [portAccess, hport]
      rfl
    have last : ∀ {t : State}, r.count ≤ s.host.dataOut.length + 1 →
        countHit r (s.answeredBurst (s.host.dataOut ++ [w])) = t → CompletesRead r.line t (exec .storePortAccess s) := by
      intro t hn h
      rw [access, readStoreWord_last hn]
      exact completeRead_completes hidle h
    refine ⟨fun hn => ?_, fun p m kk e hn hcls ha => ?_, fun p m kk hn hcls ha => ?_⟩
    · rw [access, readStoreWord_more hn]
      exact attended_idle hidle
    · exact last hn (countHit_hit (s.answeredBurst _) r p kk m e hcls ha)
    · exact last hn (countHit_absent (s.answeredBurst _) r p kk m hcls ha)
  · intro d slot o data hport hw hk
    refine exec_port hport ?_ (attended_idle hidle)
    have stored := followRunEnds_unkept (s := { s with
      store := s.store.write (slot * 16 + o) (s.store.read (slot * 16 + o) &&& data) }) hk
    refine (followWrite_program (d := d)).trans (stored.trans ?_)
    simp only [State.nextRun, hw]
  · intro d slot rest o hport hk written
    have stored := followRunEnds_unkept (s := { s with store := s.store.write (slot * 16 + o) 0xFFFF }) hk
    refine ⟨fun ho => ?_, fun ho hr => ?_, fun ho hr hw => ?_, fun run more ho hr hw => ?_⟩
    · exact exec_port hport (followWrite_erase_next ho) (attended_idle hidle)
    · exact exec_port hport (followWrite_erase_slot ho hr) (attended_idle hidle)
    · subst hr
      refine exec_port hport ?_ (attended_idle hidle)
      refine (followWrite_erase_last ho).trans (stored.trans ?_)
      simp only [State.nextRun, hw, written]
    · subst hr
      refine exec_port hport ?_ (attended_idle hidle)
      refine (followWrite_erase_last ho).trans (stored.trans ?_)
      simp only [State.nextRun, hw, written]
  · intro last address value d run sector x more hport hlast hw hrun hs hk hb hy written
    have ends : takeAccess (.follow last) s = followRunEnds { s with store := s.store.write address value } := by
      rcases hlast with ⟨y, slot, o, data, rfl, rfl, rfl⟩ | ⟨y, slot, rfl, rfl, rfl⟩
      · rfl
      · exact followWrite_erase_last (d := y) (Nat.le_refl 15)
    have next : State.nextRun { s with store := s.store.write address value } = written more := by
      simp only [State.nextRun, hw, written]
    obtain ⟨stay, hand⟩ := followRunEnds_hands (s := { s with store := s.store.write address value }) hw hrun hs hk hb hy
    rw [next] at stay hand
    refine ⟨fun hz => ?_, fun hz => ?_⟩
    · exact exec_port hport (ends.trans (stay hz)) (attended_idle hidle)
    · refine exec_port hport (ends.trans (hand hz)) (attended_idle ?_)
      obtain ⟨-, -, loader⟩ := releases_tracker d ((written more).handed d run sector)
      exact (congrArg Loader.state loader).trans hidle
  · intro f c e slot follow want hport hhold hr hw hs hm check
    have takes : ∀ t : State, t.loader = s.loader → t.host = s.host → verifyWord f c s = t →
        exec .storePortAccess s = .next t := by
      intro t hl hh h
      have idle : LoaderIdle t := (congrArg Loader.state hl).trans hidle
      refine exec_port hport ?_ (attended_idle idle)
      show takeHeld (loaderFollows (verifyWord f c s)) = t
      rw [h, loaderFollows_other t fun origin n g => nomatch idle.symm.trans g]
      exact takeHeld_nothing (.inr ⟨fun addr n => hh ▸ hr addr n, fun addr w => hh ▸ hw addr w⟩)
    have word := verifyWord_eq (f := f) hs hm
    refine ⟨fun hi => ?_, fun hi => ⟨fun hne => ?_, fun heq => ?_⟩⟩
    · exact takes _ rfl rfl (word.trans (if_pos hi))
    all_goals rw [if_neg (Nat.not_lt.mpr hi)] at word
    · exact takes _ rfl rfl (word.trans (if_neg hne))
    rw [if_pos heq] at word
    refine ⟨fun p hp => ?_, fun hp => ⟨fun hmode hread => ?_, fun hmode hread => ?_, fun mark expiry hmode => ?_⟩⟩
    · exact takes _ rfl rfl (word.trans (verifyFrom_next hp))
    all_goals have word := word.trans (verifyFrom_ends hp)
    · exact takes _ rfl rfl (word.trans (verificationEnds_switch hmode hread))
    · exact takes _ rfl rfl (word.trans (verificationEnds_boundary hmode hread))
    · exact takes _ rfl rfl (word.trans (verificationEnds_mark hmode))
  · intro j buffer o hport h slot line written check filled hl hp
    have word := fillWrite_next (j := j) (buffer := buffer) h hl hp
    have takes : ∀ t : State, t.loader = s.loader → fillWrite j buffer o s = t → exec .storePortAccess s = .next t :=
      fun t hl h => exec_port hport h (attended_idle ((congrArg Loader.state hl).trans hidle))
    let folded : FillJob := { j with check := check }
    refine ⟨fun ho => takes _ rfl (word.trans (if_pos ho)), fun ho => ?_⟩
    rw [if_neg (by omega)] at word
    refine ⟨fun cause ha => ?_, fun ha hn => ?_, fun ha hn => ⟨?_, ?_⟩⟩
    · refine takes _ rfl (word.trans ((fillLineDone_aborted (j := folded) ha).trans ?_))
      cases cause <;> rfl
    · exact takes _ rfl (word.trans (fillLineDone_next (j := folded) ha hn))
    all_goals have word := word.trans (fillLineDone_ends (j := folded) ha hn)
    · intro t e first follow old ht hc hst hm
      have checks := updateCheck_replace (s := written s.fill.job (s.fill.progress + 1)) (value := check) hc hst hm
      exact takes _ rfl (word.trans ((fillEnds_checked (j := folded) ht).trans (congrArg (State.fillDone folded) checks)))
    · intro hno
      refine takes _ rfl (word.trans (fillEnds_unchecked (j := folded) fun t ht => updateCheck_nothing ?_))
      rcases hno with hno | hno | ⟨x, hx, hno⟩
      · exact nomatch hno.symm.trans ht
      · exact .inl hno
      · cases hx.symm.trans ht
        exact .inr hno
  · intro p n words hport hw next read
    obtain ⟨more, last⟩ := managementAccess_read (s := s) hw
    refine ⟨fun hn he => ?_, fun h hsup hq hwait => ?_⟩
    · exact exec_port hport (more hn he) (attended_idle hidle)
    · refine exec_port hport ((last h).trans (endProcessing_answered hsup ?_ ?_)) (attended_idle hidle)
      · exact hwait
      · exact hq
  · intro p w x rest count hport hw next
    obtain ⟨more, last, refused⟩ := managementAccess_write (s := s) hw
    refine ⟨fun hl hp he => ?_, fun hl hp he hsup hq hwait => ?_, fun h hsup hq hwait => ?_⟩
    · exact exec_port hport (more (portRefusal_none_iff hl hp) he) (attended_idle hidle)
    · exact exec_port hport ((last (portRefusal_none_iff hl hp) he).trans (endProcessing_answered hsup hwait hq))
        (attended_idle hidle)
    · exact exec_port hport ((refused _ (portRefusal_some h)).trans (endProcessing_answered hsup hwait hq))
        (attended_idle hidle)
  · intro origin n f c e slot follow want hload hhold hport hmode hs hm check
    have committing : ∀ t : State, t.loader = s.loader → t.commit ≠ .idle → t.host = s.host → verifyWord f c s = t →
        exec .storePortAccess s = .next t := by
      intro t hl hc hh h
      refine exec_port hport ?_ (attended_quiet (.inl fun since g => ?_))
      · show takeHeld (loaderFollows (verifyWord f c s)) = t
        rw [h, loaderFollows_inFlight hc]
        exact takeHeld_nothing (.inl (by rw [hh]; exact hhold))
      · rw [hl, hload] at g
        exact nomatch g
    have done : ∀ t : State, t.loader = s.loader → t.commit = .idle → t.host = s.host → verifyWord f c s = t →
        ReleasesHost s (t.loadDone n) (exec .storePortAccess s) := by
      intro t hl hc hh h
      have ended : takeAccess (.verify f c) s = takeHeld (t.loadDone n) := by
        show takeHeld (loaderFollows (verifyWord f c s)) = _
        rw [h, loaderFollows_committing t origin n ((congrArg Loader.state hl).trans hload) hc]
      have idle : LoaderIdle (t.loadDone n) := rfl
      rw [exec_port hport ended (attended_idle (takeHeld_loaderIdle _ idle))]
      refine takeHeld_releases s (t.loadDone n) idle ?_
      rw [← hh]
      rfl
    have word := verifyWord_eq (f := f) hs hm
    refine ⟨fun hi => ?_, fun hi => ⟨fun hne => ?_, fun heq => ?_⟩⟩
    · exact committing _ rfl nofun rfl (word.trans (if_pos hi))
    all_goals rw [if_neg (Nat.not_lt.mpr hi)] at word
    · exact done _ rfl rfl rfl (word.trans (if_neg hne))
    rw [if_pos heq] at word
    refine ⟨fun p hp => ?_, fun hp => ⟨fun hread => ?_, fun hread => ?_⟩⟩
    · exact committing _ rfl nofun rfl (word.trans (verifyFrom_next hp))
    all_goals have word := word.trans (verifyFrom_ends hp)
    · exact done _ rfl rfl rfl (word.trans (verificationEnds_switch hmode hread))
    · exact committing _ rfl nofun rfl (word.trans (verificationEnds_boundary hmode hread))
  · exact exec_port hc rfl (attended_passive (hp.of rfl rfl id))

end Sys2Proof.Machine
end

section
/-! PROOFS. The timers of the busy service and of the commit unit, and the start of a load (R42, R113, R117, R122, R125, R178,
R180). -/

namespace Sys2Proof.Machine

set_option Elab.async false

variable {s : State} {d : Dev}

/-! ### The stall timer -/

/-- R117: the position a stalled TRAP hit notes. -/
def ReadRecord.position (r : ReadRecord) : Option Nat :=
  match r.cls with
  | .hit p _ _ => some p
  | _ => none

/-- R117: the state as the stall timeout completes the burst. -/
def State.stallEnded (r : ReadRecord) (since : Nat) (s : State) : State :=
  post { kind := .stallTimeout, device := some (devOf r.addr), address := some r.line, entry := r.position, detail := 0 }
    (withdrawSuspend (devOf r.addr) (runTo (since + (s.policy.get (devOf r.addr)).stallTimeout) s))

theorem stallTimesOut_stalled {r : ReadRecord} {since : Nat} {why : StallWhy} (ht : s.host.transaction = .read r)
    (hs : r.stage = .stalled since why) : stallTimesOut s
      = completeRead r (List.replicate r.count (s.policy.get (devOf r.addr)).faultWord) (s.stallEnded r since) := by
  simp only [stallTimesOut, ht, hs]
  rfl

/-- Settles O48. -/
theorem stallTimeoutAnswersTheFaultWord : Obligations.StallTimeoutAnswersTheFaultWord := by
  intro s r since why ht hs d now done
  let words : List Word := List.replicate r.count (s.policy.get d).faultWord
  have exec_eq : exec .stallTimeout s
      = .next (reportCompletion r.line (countHit r ((s.stallEnded r since).answeredBurst words))) :=
    congrArg Host.Outcome.next (stallTimesOut_stalled ht hs)
  have ended : (s.stallEnded r since).answeredBurst words = done r.position := by
    rw [State.stallEnded, withdrawSuspend_eq]
    rfl
  have completes : ∀ {t : State}, countHit r (done r.position) = t → CompletesRead r.line t (exec .stallTimeout s) := by
    intro t h
    rw [exec_eq, ended, h]
    exact reportCompletion_completes t r.line
  refine ⟨fun hc => ?_, fun p k e hc ha => ?_, fun p k hc ha => ?_⟩
  · have noted : r.position = none := by simp only [ReadRecord.position, hc]
    rw [noted] at completes
    exact completes (countHit_other (done none) r fun p m k g => nomatch hc.symm.trans g)
  all_goals
    have noted : r.position = some p := by simp only [ReadRecord.position, hc]
    rw [noted] at completes
  · exact completes (countHit_hit (done (some p)) r p k .trap e hc ha)
  · exact completes (countHit_absent (done (some p)) r p k .trap hc ha)

/-! ### The suspend timer -/

/-- R122: the state at the suspend timeout, before a stalled burst falls to the miss policy. -/
def State.suspendFailed (d : Dev) (sector target now : Nat) (e : Option EraseFields) (s : State) : State := { s with
  clock := now
  tracker := s.tracker.set d { s.tracker.get d with record := .busyErase sector target e }
  controller := s.controller.set d { s.controller.get d with suspendTimer := none }
  notices := s.notices.post (BitVec.ofNat 32 now)
    { kind := .suspendFailed, device := some d, address := some target, entry := none, detail := 0 } }

/-- R122: a burst stalled in SUSPENDING falls to the miss policy. -/
theorem suspendTimesOut_suspending {sector target t0 : Nat} {o : Owner} {p : Bool} {e : Option EraseFields}
    (hr : (s.tracker.get d).record = .suspending sector target o p e) (ht : (s.controller.get d).suspendTimer = some t0)
    (hread : (s.tracker.get d).reading = false) (hb : BypassesPass s d) (hc : (s.controller.get d).call = none) :
    suspendTimesOut d s = State.fallsToPolicy d
      (s.suspendFailed d sector target (max s.clock (t0 + 100)) (e.map fun x => { x with disabled := true })) := by
  let failed : State := s.suspendFailed d sector target (max s.clock (t0 + 100)) (e.map fun x => { x with disabled := true })
  have call : (failed.controller.get d).call = none := by
    simp only [failed, State.suspendFailed, perDev_get_set, hc]
  simp only [suspendTimesOut, hr, ht]
  refine (if_neg (by simp [hread])).trans ?_
  show (match failed.host.transaction with
    | .read r => match r.stage with
      | .stalled since why => if devOf r.addr = d ∧ why ≠ .policy then fallToPolicy since r failed else failed
      | _ => failed
    | _ => failed) = failed.fallsToPolicy d
  cases htr : s.host.transaction with
  | read r =>
    cases hs : r.stage with
    | stalled since why =>
      have falls : fallToPolicy since r failed = (match (failed.policy.get (devOf r.addr)).missPolicy with
          | .stall => stallRead since .policy r failed
          | .pass => failed.released r) ∨ devOf r.addr ≠ d := by
        by_cases hd : devOf r.addr = d
        · exact .inl (fallToPolicy_released failed since r (hb r since why ⟨htr, hs, hd⟩) (hd ▸ call))
        · exact .inr hd
      have now : failed.host.transaction = .read r := htr
      simp only [State.fallsToPolicy, now, hs]
      by_cases hd : devOf r.addr = d ∧ why ≠ .policy
      · rw [if_pos hd, if_pos hd, falls.resolve_right (not_not_intro hd.1), hd.1]
        rfl
      · rw [if_neg hd, if_neg hd]
    | _ =>
      have now : failed.host.transaction = .read r := htr
      simp only [State.fallsToPolicy, now, hs]
  | _ =>
    have now := show failed.host.transaction = _ from htr
    simp only [State.fallsToPolicy, now]

/-- Settles O49. -/
theorem suspendTimeoutDisablesSuspension : Obligations.SuspendTimeoutDisablesSuspension := by
  intro s d sector target o p e t0 hb hc hr
  refine ⟨fun hread ht => ?_, fun hread => ?_⟩
  · intro now
    exact congrArg Host.Outcome.next (suspendTimesOut_suspending hr ht hread hb hc)
  · refine congrArg Host.Outcome.next ?_
    simp only [suspendTimesOut, hr]
    split
    · exact if_pos hread
    · rfl

/-! ### min_run -/

theorem minRunEnds_stalled {r : ReadRecord} {since sector target t0 : Nat} {e : Option EraseFields}
    (ht : s.host.transaction = .read r) (hs : r.stage = .stalled since .minRun)
    (hr : (s.tracker.get (devOf r.addr)).record = .busyErase sector target e)
    (hl : (s.controller.get (devOf r.addr)).lastResume = some t0) :
    minRunEnds s = decideErase since r sector e (runTo (t0 + (s.policy.get (devOf r.addr)).minRun) s) := by
  simp only [minRunEnds, ht, hs, hr, hl]

theorem serviceFree_iff : serviceFree s d = true ↔ s.service.get d = none ∧ (s.tracker.get d).reading = false
    ∧ (s.tracker.get d).keptRun = none := by
  simp [serviceFree, and_assoc]

/-! ### The resume timers -/

/-- R125, R126: a timer's call, the RESUME raised with it where it may be. -/
theorem callResume_suspended {sector target : Nat} {p : Bool} {e : Option EraseFields} (c : ResumeCall)
    (hr : (s.tracker.get d).record = .suspended sector target .part p e) :
    (s.service.get d = none → readOutstanding s d = false → callResume c d s = { s with
      controller := s.controller.set d { s.controller.get d with call := some c }
      service := s.service.set d (some { work := .resume .timers, addr := sectorBase sector, behind := hostWaiting s d }) })
    ∧ ((∃ q, s.service.get d = some q) ∨ readOutstanding s d = true → callResume c d s = { s with
      controller := s.controller.set d { s.controller.get d with call := some c } }) := by
  let called : State := { s with controller := s.controller.set d { s.controller.get d with call := some c } }
  have hcall : (called.controller.get d).call = some c := by simp only [called, perDev_get_set]
  let raised : PerDev (Option ServiceReq) :=
    s.service.set d (some { work := .resume .timers, addr := sectorBase sector, behind := hostWaiting s d })
  have eq : callResume c d s = { called with
      service := if s.service.get d = none ∧ readOutstanding s d = false then raised else s.service } := by
    refine (raiseCalledResume_eq called d).trans ?_
    simp only [calledService, hcall, show (called.tracker.get d).record = _ from hr]
    rfl
  refine ⟨fun hs ho => ?_, fun h => ?_⟩
  · rw [eq, if_pos ⟨hs, ho⟩]
  · rw [eq, if_neg]
    rintro ⟨hs, ho⟩
    rcases h with ⟨q, hq⟩ | h
    · exact nomatch hs.symm.trans hq
    · exact Bool.false_ne_true (ho.symm.trans h)

/-- Settles O50. -/
theorem busyServiceTimersRaiseTheirRequests : Obligations.BusyServiceTimersRaiseTheirRequests := by
  intro s d sector target t0 e p
  refine ⟨fun r since ht hs hd hr hl => ?_, fun hr => ?_⟩
  · intro later
    subst hd
    have ends : exec .minRunElapses s = .next (decideErase since r sector (some e) later) :=
      congrArg Host.Outcome.next (minRunEnds_stalled ht hs hr hl)
    refine ⟨fun hserv hread hrun ha hdis hcount => ?_, fun hoff => ?_⟩
    · rw [ends, decideErase_suspends later ((suspensionAvailable_iff later).mpr ⟨ha, hdis, hcount⟩) hl
        (Nat.le_max_right _ _) (serviceFree_iff.mpr ⟨hserv, hread, hrun⟩)]
      rfl
    · have falls : exec .minRunElapses s = .next (fallToPolicy since r later) := by
        rw [ends, decideErase_falls later (suspensionAvailable_none later (.inr hoff)),
          reportBudget_again later (hoff.imp_right .inl)]
      refine ⟨fun hm => ?_, fun hm hcls hcall => ?_⟩
      · have policy : (later.policy.get (devOf r.addr)).missPolicy = .stall := hm
        rw [falls]
        simp only [fallToPolicy, policy]
        rfl
      · have policy : (later.policy.get (devOf r.addr)).missPolicy = .pass := hm
        rw [falls, fallToPolicy_released later since r (by rw [hcls]; exact nofun) hcall]
        simp only [policy]
        rfl
  · intro called raised
    refine ⟨fun ht => ?_, fun ht => ?_⟩
    · intro now
      refine ⟨fun hc => ?_, fun c hc => ?_⟩
      · have ends : exec (.resumeIdleTimerExpires d) s
            = .next (callResume .idle d (runTo (t0 + (s.policy.get d).resumeIdle) s)) := by
          refine congrArg Host.Outcome.next ?_
          simp only [idleTimerEnds, hr, ht, hc]
        rw [ends]
        obtain ⟨raises, calls⟩ := callResume_suspended (s := runTo (t0 + (s.policy.get d).resumeIdle) s) .idle hr
        exact ⟨fun hs ho => congrArg _ (raises hs ho), fun h => congrArg _ (calls h)⟩
      · refine congrArg Host.Outcome.next ?_
        simp only [idleTimerEnds, hr, ht, hc]
    · intro now
      refine ⟨fun hc => ?_, fun hc => ?_⟩
      · have ends : exec (.holdMaxTimerExpires d) s
            = .next (callResume .holdMax d (runTo (t0 + (s.policy.get d).holdMax) s)) := by
          refine congrArg Host.Outcome.next ?_
          simp only [holdTimerEnds, hr, ht]
          exact if_neg hc
        rw [ends]
        obtain ⟨raises, calls⟩ := callResume_suspended (s := runTo (t0 + (s.policy.get d).holdMax) s) .holdMax hr
        exact ⟨fun hs ho => congrArg _ (raises hs ho), fun h => congrArg _ (calls h)⟩
      · refine congrArg Host.Outcome.next ?_
        simp only [holdTimerEnds, hr, ht]
        exact if_pos hc

/-! ### The expiry of a commit -/

/-- Settles O51. -/
theorem commitExpiresWithoutASwitch : Obligations.CommitExpiresWithoutASwitch := by
  intro s f mark expiry since
  refine ⟨fun hc hm => ?_, fun h => congrArg Host.Outcome.next ?_⟩
  · intro now
    refine congrArg Host.Outcome.next ?_
    simp only [commitExpires, hc, hm]
    rfl
  · simp only [commitExpires]

/-! ### The start of a load -/

theorem lineOf_bootBase : lineOf (bootBase s) = s.loader.bootSector * 4096 := by
  show s.loader.bootSector * 65536 / 16 = _
  omega

/-- R180: what a load that waits for its area waits for. -/
theorem loadBegins_waiting {origin : LoadOrigin} {since : Nat} (h : s.loader.state = .waiting origin since) :
    loadBegins s = if s.fill.job.isNone ∧ readable s (s.loader.bootSector * 4096) ∧ s.tracker.dev0.kept = [] then
      setLoader (.reading origin 0 0 []) s else s := by
  simp only [loadBegins, h, lineOf_bootBase]
  rfl

theorem loadFails_releases (reason : LoadReason) (index : Nat) (address : Option Nat) :
    ReleasesHost s { s with
      loader := { s.loader with state := .idle }
      staged := Vector.replicate 64 none
      notices := s.notices.post (timeBase s)
        { kind := .loadError, device := some .dev0, address := address, entry := none,
          detail := BitVec.ofNat 16 (reason.code * 256 + index) } }
      (.next (loadFails reason index address s)) :=
  takeHeld_releases s { s with
      host := { s.host with loadHold := false }
      loader := { s.loader with state := .idle }
      staged := Vector.replicate 64 none
      notices := s.notices.post (timeBase s)
        { kind := .loadError, device := some .dev0, address := address, entry := none,
          detail := BitVec.ofNat 16 (reason.code * 256 + index) } } rfl rfl

/-- Settles O52. -/
theorem loaderStartsOrTimesOut : Obligations.LoaderStartsOrTimesOut := by
  intro s origin since hl
  have begins : exec .loadBegins s = .next _ := congrArg Host.Outcome.next (loadBegins_waiting hl)
  refine ⟨fun hf hr hk => ?_, fun h => ?_, fun hp => ?_, fun hp => ?_⟩
  · rw [begins, if_pos ⟨by rw [hf]; rfl, hr, hk⟩]
    rfl
  · rw [begins, if_neg]
    rintro ⟨hf, hr, hk⟩
    rcases h with ⟨j, hj⟩ | h | h
    · rw [hj] at hf
      exact Bool.false_ne_true hf
    · exact Bool.false_ne_true (h.symm.trans hr)
    · exact h hk
  · intro now
    have ends : exec .probeTimeout s = .next (loadFails .noDevice 0 none (runTo (since + 50000) s)) := by
      refine congrArg Host.Outcome.next ?_
      simp only [probeTimesOut, hl]
      exact if_pos hp
    rw [ends]
    exact loadFails_releases (s := runTo (since + 50000) s) .noDevice 0 none
  · refine congrArg Host.Outcome.next ?_
    simp only [probeTimesOut, hl]
    exact if_neg hp

end Sys2Proof.Machine
end

section
/-! PROOFS. What the fields of a whole record that fails no check are (R168, R169, R172, R211). -/

namespace Sys2Proof.Machine

set_option Elab.async false

variable {s : State} {b : List Word}

/-- R171: a whole record that fails no check has its fields in range. -/
theorem recordFailure_none (h : recordFailure s b = none) : rangeFails b = false := by
  cases hr : rangeFails b with
  | false => rfl
  | true =>
    simp only [recordFailure, hr, if_true] at h
    split_ifs at h

/-! ### Codes of operands -/

theorem devOfNumber_some {n : Nat} {d : Dev} (h : devOfNumber n = some d) : d = if n = 0 then .dev0 else .dev1 := by
  match n with
  | 0 | 1 => exact (Option.some.inj h).symm

theorem natBool_some {n : Nat} {x : Bool} (h : natBool n = some x) : x = decide (n = 1) := by
  match n with
  | 0 | 1 => exact (Option.some.inj h).symm

theorem missPolicyOf_some {n : Nat} {p : MissPolicy} (h : missPolicyOf n = some p) :
    p = if n = 0 then .stall else .pass := by
  match n with
  | 0 | 1 => exact (Option.some.inj h).symm

theorem lockOf_some {n : Nat} {l : Lock} (h : lockOf n = some l) :
    l = if n = 0 then .opened else if n = 1 then .locked else .frozen := by
  match n with
  | 0 | 1 | 2 => exact (Option.some.inj h).symm

theorem policyOf_some {miss auto budget idle minRun holdMax stall fault : Nat} {p : Policy}
    (h : policyOf miss auto budget idle minRun holdMax stall fault = some p) :
    p = { missPolicy := if miss = 0 then .stall else .pass, autoSuspend := auto = 1, budget := budget, resumeIdle := idle,
          minRun := minRun, holdMax := holdMax, stallTimeout := stall, faultWord := BitVec.ofNat 16 fault } := by
  unfold policyOf at h
  cases hm : missPolicyOf miss with
  | none => simp only [hm, reduceCtorEq] at h
  | some m =>
    cases ha : natBool auto with
    | none => simp only [hm, ha, reduceCtorEq] at h
    | some a =>
      simp only [hm, ha] at h
      split_ifs at h
      rw [← Option.some.inj h, missPolicyOf_some hm, natBool_some ha]

/-! ### Records, type by type -/

/-- R172: the entry that the body of an OVERLAY record gives. -/
def overlayFields (b : List Word) : Entry :=
  { firstLine := bodyWord b 2 * 65536 + bodyWord b 3
    lineCount := bodyWord b 4
    mode := if bodyWord b 1 = 1 then .replace (bodyWord b 5) (bodyWord b 6 = 1)
        (if bodyWord b 7 = 1 then some (BitVec.ofNat 16 (bodyWord b 8)) else none)
      else if bodyWord b 1 = 2 then .blank (BitVec.ofNat 16 (bodyWord b 9)) else .trap }

theorem overlayEntry_fields {p : Nat × Entry} (h : overlayEntry b = some p) : p = (bodyWord b 0, overlayFields b) := by
  unfold overlayEntry at h
  unfold overlayFields
  by_cases h1 : bodyWord b 1 = 1
  · cases hf : natBool (bodyWord b 6) with
    | none =>
      simp only [h1, hf, if_true] at h
      split_ifs at h
    | some follow =>
      simp only [h1, hf, if_true] at h
      split_ifs at h <;> rw [if_pos h1, ← natBool_some hf, ← Option.some.inj h] <;> simp only [*, if_true, if_false]
  · by_cases h2 : bodyWord b 1 = 2
    · simp only [if_neg h1, if_pos h2] at h
      split_ifs at h
      rw [if_neg h1, if_pos h2, ← Option.some.inj h]
    · simp only [if_neg h1, if_neg h2] at h
      split_ifs at h
      rw [if_neg h1, if_neg h2, ← Option.some.inj h]

theorem overlay_inRange (h : rangeFails b = false) (ht : recordType b = 1) :
    overlayEntry b = some (bodyWord b 0, overlayFields b) := by
  have isSome : (overlayEntry b).isNone = false := by
    simpa only [rangeFails, ht, typeOverlay, if_true] using h
  obtain ⟨p, hp⟩ := Option.isSome_iff_exists.mp (Option.isNone_eq_false_iff.mp isSome)
  rw [hp, overlayEntry_fields hp]

theorem policy_inRange (h : rangeFails b = false) (ht : recordType b = 3) :
    recordPolicy b = some (if bodyWord b 0 = 0 then .dev0 else .dev1,
      { missPolicy := if bodyWord b 1 = 0 then .stall else .pass, autoSuspend := bodyWord b 2 = 1, budget := bodyWord b 3,
        resumeIdle := bodyWord b 4, minRun := bodyWord b 5, holdMax := bodyWord b 6, stallTimeout := bodyWord b 7,
        faultWord := BitVec.ofNat 16 (bodyWord b 8) }) := by
  have isSome : (recordPolicy b).isNone = false := by
    simpa [rangeFails, ht, typeOverlay, typeLock, typePolicy] using h
  unfold recordPolicy at isSome ⊢
  cases hd : devOfNumber (bodyWord b 0) with
  | none => simp only [hd, Option.isNone_none, reduceCtorEq] at isSome
  | some d =>
    cases hp : policyOf (bodyWord b 1) (bodyWord b 2) (bodyWord b 3) (bodyWord b 4) (bodyWord b 5) (bodyWord b 6)
        (bodyWord b 7) (bodyWord b 8) with
    | none => simp only [hd, hp, Option.isNone_none, reduceCtorEq] at isSome
    | some p => simp only [hd, hp, devOfNumber_some hd, policyOf_some hp]

theorem enable_inRange (h : rangeFails b = false) (ht : recordType b = 4) :
    recordEnable b = some (Vector.ofFn fun i : Fin 18 =>
      if i.val < 16 then (b.getD 2 0).getLsbD i.val else (b.getD 3 0).getLsbD (i.val - 16)) := by
  have isSome : (recordEnable b).isNone = false := by
    simpa [rangeFails, ht, typeOverlay, typeLock, typePolicy, typeEnable] using h
  unfold recordEnable at isSome ⊢
  split at isSome
  · exact nomatch isSome
  · exact if_neg ‹_›

/-- R93, R95: what a triple of a LOCK record makes of the state of sector `i`. -/
def tripleLock (b : List Word) (i : Nat) (l : Lock) (k : Nat) : Lock :=
  if bodyWord b (3 * k) ≤ i ∧ i < bodyWord b (3 * k) + bodyWord b (3 * k + 1) ∧ l ≠ .frozen then
    if bodyWord b (3 * k + 2) = 0 then .opened else if bodyWord b (3 * k + 2) = 1 then .locked else .frozen
  else l

/-- R175: the triples are applied in their order. -/
def applyTriples (triples : List (Nat × Nat × Lock)) (s : State) : State :=
  triples.foldl (fun s t => applyLock t.1 t.2.1 t.2.2 s) s

theorem lockTriple_some {first count state : Nat} {t : Nat × Nat × Lock} (h : lockTriple first count state = some t) :
    t = (first, count, if state = 0 then .opened else if state = 1 then .locked else .frozen) := by
  unfold lockTriple at h
  split_ifs at h
  obtain ⟨l, hl, rfl⟩ := Option.map_eq_some_iff.mp h
  rw [lockOf_some hl]

theorem lockAt_applyTriples (i : Nat) (hi : i < 512) (n : Nat) : ∀ (k : Nat) (s : State) (triples : List (Nat × Nat × Lock)),
    lockTriples b k n = some triples →
      lockAt (applyTriples triples s) i = (List.range' k n).foldl (tripleLock b i) (lockAt s i) := by
  induction n with
  | zero =>
    intro k s triples h
    rw [← Option.some.inj h]
    rfl
  | succ n ih =>
    intro k s triples h
    unfold lockTriples at h
    split at h
    · rename_i t rest ht hrest
      rw [← Option.some.inj h, lockTriple_some ht]
      refine (ih (k + 1) (applyLock _ _ _ s) rest hrest).trans ?_
      rw [lockAt_applyLock _ _ _ _ i hi]
      rfl
    · exact nomatch h

theorem applyTriples_frame (triples : List (Nat × Nat × Lock)) :
    ∀ s : State, applyTriples triples s = { s with locks := (applyTriples triples s).locks } := by
  induction triples with
  | nil => exact fun _ => rfl
  | cons t rest ih => exact fun s => ih (applyLock t.1 t.2.1 t.2.2 s)

theorem locks_inRange (h : rangeFails b = false) (ht : recordType b = 2) :
    ∃ triples, lockTriples b 0 (recordLength b / 3) = some triples := by
  have isSome : (lockTriples b 0 (recordLength b / 3)).isNone = false := by
    simpa [rangeFails, ht, typeOverlay, typeLock] using h
  exact Option.isSome_iff_exists.mp (Option.isNone_eq_false_iff.mp isSome)

end Sys2Proof.Machine
end

section
/-! PROOFS. The loader's reads, the application of its records and the end of a load (R47, R139, R170 to R177). -/

namespace Sys2Proof.Machine

set_option Elab.async false

variable {s : State} {origin : LoadOrigin} {index position : Nat}

/-! ### The end of a load -/

/-- R174: what a load that stops leaves, its host face still to be released. -/
def State.loadStopped (reason index address : Nat) (s : State) : State := { s with
  loader := { s.loader with state := .idle }
  staged := Vector.replicate 64 none
  notices := s.notices.post (timeBase s)
    { kind := .loadError, device := some .dev0, address := some address, entry := none,
      detail := BitVec.ofNat 16 (reason * 256 + index) } }

theorem loadFails_stops {reason : LoadReason} {start : Nat} {t : State}
    (h : t = loadFails reason index (some (bootBase s + start)) s) :
    ReleasesHost s (s.loadStopped reason.code index (s.loader.bootSector * 65536 + start)) (attended t) := by
  have idle : LoaderIdle t := h ▸ takeHeld_loaderIdle _ rfl
  rw [attended_idle idle, h]
  exact loadFails_releases reason index _

/-- R139: whether a transaction is held is a matter of the host face alone. -/
theorem ReleasesHost.of_host {u t : State} {o : Host.Outcome State Fault Refusal} (h : ReleasesHost u t o)
    (hh : u.host = s.host) : ReleasesHost s t o := by
  unfold ReleasesHost at h ⊢
  rw [← hh]
  exact h

/-! ### The next record -/

/-- R171, R176: the next record is begun, but for a record limit or the area's end. -/
theorem nextRecord_begins {t : State} (h : t = nextRecord origin index position s) :
    (index < 127 → position + 2 ≤ 65536 → attended t = .next { s with
      loader := { s.loader with state := .reading origin (index + 1) position [] } })
    ∧ (127 ≤ index → ReleasesHost s (s.loadStopped 1 (index + 1) (s.loader.bootSector * 65536 + position)) (attended t))
    ∧ (index < 127 → 65536 < position + 2 →
      ReleasesHost s (s.loadStopped 2 (index + 1) (s.loader.bootSector * 65536 + position)) (attended t)) := by
  have within : index < 127 → ¬ index + 1 ≥ Config.recordLimit := fun hi => by
    show ¬ index + 1 ≥ 128
    omega
  have limit : 127 ≤ index → index + 1 ≥ Config.recordLimit := fun hi => by
    show index + 1 ≥ 128
    omega
  refine ⟨fun hi hp => ?_, fun hi => ?_, fun hi hp => ?_⟩
  · have begun : t = setLoader (.reading origin (index + 1) position []) s :=
      h.trans ((if_neg (within hi)).trans (if_neg (Nat.not_lt.mpr hp)))
    rw [begun]
    exact attended_quiet (.inl fun since g => nomatch g)
  · have failed : t = loadFails .recordLimit (index + 1) (some (bootBase s + position)) s := h.trans (if_pos (limit hi))
    exact loadFails_stops (reason := .recordLimit) (start := position) failed
  · have failed : t = loadFails .areaEnd (index + 1) (some (bootBase s + position)) s :=
      h.trans ((if_neg (within hi)).trans (if_pos hp))
    exact loadFails_stops (reason := .areaEnd) (start := position) failed

/-! ### The application of a record -/

section

variable {record : List Word}

theorem applyRecord_overlay (ht : recordType record = 1) (hr : rangeFails record = false) (hi : bodyWord record 10 = 0) :
    applyRecord origin index position record s = nextRecord origin index position { s with
      staged := s.staged.setIfInBounds (bodyWord record 0) (some (overlayFields record)) } := by
  have bare : inlineFlag record = false := by rw [inlineFlag, hi]; rfl
  simp only [applyRecord, ht, typeOverlay, bare, stageOverlay, overlay_inRange hr ht, if_true, Bool.false_eq_true, if_false]

theorem applyRecord_inline (ht : recordType record = 1) (hi : bodyWord record 10 = 1) :
    applyRecord origin index position record s = setLoader (.applying origin index position record 0) s := by
  have bears : inlineFlag record = true := by rw [inlineFlag, hi]; rfl
  simp only [applyRecord, ht, typeOverlay, bears, if_true]

theorem applyRecord_lock (ht : recordType record = 2) {triples : List (Nat × Nat × Lock)}
    (h : lockTriples record 0 (recordLength record / 3) = some triples) :
    applyRecord origin index position record s = nextRecord origin index position (applyTriples triples s) := by
  simp [applyRecord, ht, typeOverlay, typeLock, h, applyTriples]

theorem applyRecord_policy (ht : recordType record = 3) {d : Dev} {p : Policy} (h : recordPolicy record = some (d, p)) :
    applyRecord origin index position record s
      = nextRecord origin index position { s with policy := s.policy.set d p } := by
  simp [applyRecord, ht, typeOverlay, typeLock, typePolicy, h]

theorem applyRecord_enable (ht : recordType record = 4) {e : Vector Bool 18} (h : recordEnable record = some e) :
    applyRecord origin index position record s
      = nextRecord origin index position { s with notices := { s.notices with enabled := e } } := by
  simp [applyRecord, ht, typeOverlay, typeLock, typePolicy, typeEnable, h]

theorem applyRecord_end (ht : recordType record = 5) :
    applyRecord origin index position record s = loaderCommit origin index s := by
  simp [applyRecord, ht, typeOverlay, typeLock, typePolicy, typeEnable]

end

/-! ### The loader's commit -/

/-- R177: the state in which the loader's commit is under way. -/
def State.committing (origin : LoadOrigin) (index : Nat) (c : Commit) (s : State) : State := { s with
  commit := c
  loader := { s.loader with state := .committing origin (index + 1) } }

/-- R177: a commit that has ended is followed by LOAD_DONE and the release. -/
theorem loaderCommit_ends {t : State} {n : Nat} (hl : t.loader.state = .committing origin n) (hc : t.commit = .idle)
    (h : startCommit { mode := .immediate, origin := .loader } (setLoader (.committing origin (index + 1)) s) = t)
    (hh : t.host = s.host) : ReleasesHost s (t.loadDone n) (attended (loaderCommit origin index s)) := by
  have done : loaderCommit origin index s = takeHeld (t.loadDone n) := by
    show takeHeld (loaderFollows (startCommit _ (setLoader _ s))) = _
    rw [h, loaderFollows_committing t origin n hl hc]
  rw [done, attended_idle (takeHeld_loaderIdle _ rfl)]
  refine takeHeld_releases s (t.loadDone n) rfl ?_
  rw [← hh]
  rfl

/-- R36, R41: a commit under way that has not ended leaves the loader in COMMITTING and nothing taken. -/
theorem loaderCommit_waits {c : Commit} (hc : c ≠ .idle)
    (h : startCommit { mode := .immediate, origin := .loader } (setLoader (.committing origin (index + 1)) s)
      = s.committing origin index c)
    (hh : s.host.loadHold = true ∨ readInProgress s = true) :
    attended (loaderCommit origin index s) = .next (s.committing origin index c) := by
  have held : takeHeld (s.committing origin index c) = s.committing origin index c := by
    refine takeHeld_nothing (hh.imp id fun hr => ?_)
    show (∀ addr n, s.host.transaction ≠ .heldRead addr n) ∧ ∀ addr w, s.host.transaction ≠ .heldWrite addr w
    rw [readInProgress] at hr
    split at hr
    · rename_i r ht
      rw [ht]
      exact ⟨nofun, nofun⟩
    · exact nomatch hr
  have under : loaderCommit origin index s = s.committing origin index c := by
    show takeHeld (loaderFollows (startCommit _ (setLoader _ s))) = _
    rw [h, loaderFollows_inFlight (s := s.committing origin index c) hc, held]
  rw [under]
  exact attended_quiet (.inl fun since g => nomatch g)

/-! ### The words of a read -/

section

variable {buffer words : List Word} (hl : s.loader.state = .reading origin index position buffer)
include hl

theorem loaderWords_reading : loaderWords words s
    = let record := buffer ++ words
      let start := position - buffer.length
      if record.length < 2 then setLoader (.reading origin index (position + words.length) record) s
      else if recordLength record > 4200 then loadFails .length index (some (bootBase s + start)) s
      else if start + recordLength record + 3 > 65536 then loadFails .areaEnd index (some (bootBase s + start)) s
      else if record.length < recordLength record + 3 then
        setLoader (.reading origin index (position + words.length) record) s
      else match recordFailure s record with
        | some reason => loadFails reason index (some (bootBase s + start)) s
        | none => applyRecord origin index (position + words.length) record s := by
  simp only [loaderWords, hl]
  rfl

end

/-! ### A record applied, and the next one -/

/-- R171, R176: `o` is what a row answers to `s` that has applied the record of `index`, leaving `t`: the bus is free and the
next record, at `position`, is begun, or a limit stops the load. -/
def FollowsRecord (s : State) (origin : LoadOrigin) (index position : Nat) (t : State)
    (o : Host.Outcome State Fault Refusal) : Prop :=
  let ended (reason : Nat) : State := { t with
    bus := none
    loader := { s.loader with state := .idle }
    staged := Vector.replicate 64 none
    notices := t.notices.post (timeBase s)
      { kind := .loadError, device := some .dev0, address := some (s.loader.bootSector * 65536 + position),
        entry := none, detail := BitVec.ofNat 16 (reason * 256 + (index + 1)) } }
  (index < 127 → position + 2 ≤ 65536 → o = .next { t with
    bus := none, loader := { s.loader with state := .reading origin (index + 1) position [] } })
  ∧ (127 ≤ index → ReleasesHost s (ended 1) o)
  ∧ (index < 127 → 65536 < position + 2 → ReleasesHost s (ended 2) o)

variable {o : Host.Outcome State Fault Refusal}

theorem nextRecord_follows {t : State} (h : o = attended (nextRecord origin index position { t with bus := none }))
    (hh : t.host = s.host) (hl : t.loader = s.loader) (ht : timeBase t = timeBase s) :
    FollowsRecord s origin index position t o := by
  obtain ⟨begins, limit, areaEnd⟩ := nextRecord_begins (s := { t with bus := none }) (origin := origin) (index := index)
    (position := position) rfl
  unfold FollowsRecord
  rw [← hl, ← ht, h]
  exact ⟨begins, fun hi => (limit hi).of_host hh, fun hi hp => (areaEnd hi hp).of_host hh⟩

section

variable {record : List Word} (h : o = attended (applyRecord origin index position record { s with bus := none }))
  (hr : rangeFails record = false)
include h hr

theorem overlay_follows (ht : recordType record = 1) (hi : bodyWord record 10 = 0) :
    FollowsRecord s origin index position { s with
      staged := s.staged.setIfInBounds (bodyWord record 0) (some (overlayFields record)) } o := by
  rw [applyRecord_overlay ht hr hi] at h
  exact nextRecord_follows h rfl rfl rfl

theorem lock_follows (ht : recordType record = 2) : ∃ t, FollowsRecord s origin index position t o
    ∧ t = { s with locks := t.locks }
    ∧ ∀ i, i < 512 → lockAt t i = (List.range (recordLength record / 3)).foldl (tripleLock record i) (lockAt s i) := by
  obtain ⟨triples, read⟩ := locks_inRange hr ht
  rw [applyRecord_lock ht read, applyTriples_frame] at h
  refine ⟨{ s with locks := (applyTriples triples { s with bus := none }).locks }, nextRecord_follows h rfl rfl rfl, rfl,
    fun i hi => ?_⟩
  rw [List.range_eq_range']
  exact lockAt_applyTriples i hi _ _ { s with bus := none } _ read

theorem policy_follows (ht : recordType record = 3) : FollowsRecord s origin index position { s with
    policy := s.policy.set (if bodyWord record 0 = 0 then .dev0 else .dev1)
      { missPolicy := if bodyWord record 1 = 0 then .stall else .pass, autoSuspend := bodyWord record 2 = 1,
        budget := bodyWord record 3, resumeIdle := bodyWord record 4, minRun := bodyWord record 5,
        holdMax := bodyWord record 6, stallTimeout := bodyWord record 7,
        faultWord := BitVec.ofNat 16 (bodyWord record 8) } } o := by
  rw [applyRecord_policy ht (policy_inRange hr ht)] at h
  exact nextRecord_follows h rfl rfl rfl

theorem enable_follows (ht : recordType record = 4) : ∃ t, FollowsRecord s origin index position t o
    ∧ t = { s with notices := { s.notices with enabled := t.notices.enabled } }
    ∧ ∀ (k : Nat) (h : k < 18), t.notices.enabled[k]
        = if k < 16 then (record.getD 2 0).getLsbD k else (record.getD 3 0).getLsbD (k - 16) := by
  rw [applyRecord_enable ht (enable_inRange hr ht)] at h
  refine ⟨{ s with notices := { s.notices with enabled := _ } }, nextRecord_follows h rfl rfl rfl, rfl, fun k hk => ?_⟩
  exact Vector.getElem_ofFn hk

end

end Sys2Proof.Machine
end

section
/-! PROOFS. The loader's rows: its reads at the memory face and its inline words at the store port. -/

namespace Sys2Proof.Machine

set_option Elab.async false

variable {s : State} {origin : LoadOrigin} {index position : Nat} {o : Host.Outcome State Fault Refusal}

/-! ### The END record -/

/-- R34, R35, R177: the loader's commit is rejected with its notice or goes to verification. -/
theorem startCommit_rejected {f : InFlight} {r : Rejection} (h : validate s.straps.twoDevices s.staged = some r) :
    startCommit f s = rejectCommit r s := by
  simp only [startCommit, h]

theorem startCommit_verified {f : InFlight} (h : validate s.straps.twoDevices s.staged = none) :
    startCommit f s = verifyFrom f 0 s := by
  simp only [startCommit, h]

theorem loaderCommit_rejected {r : Rejection} (h : o = attended (loaderCommit origin index { s with bus := none }))
    (hv : validate s.straps.twoDevices s.staged = some r) : ReleasesHost s (State.loadDone (index + 1) { s with
      bus := none
      commit := .idle
      notices := s.notices.post (timeBase s)
        { kind := .commitRejected, device := none, address := r.address, entry := some r.position,
          detail := r.detail } }) o := by
  rw [h]
  exact (loaderCommit_ends (s := { s with bus := none })
    (t := rejectCommit r (setLoader (.committing origin (index + 1)) { s with bus := none })) (origin := origin)
    (n := index + 1) rfl rfl (startCommit_rejected hv) rfl).of_host rfl

theorem loaderCommit_verified (h : o = attended (loaderCommit origin index { s with bus := none }))
    (hv : validate s.straps.twoDevices s.staged = none) :
    (∀ p, nextChecked s.staged 0 = some p → s.host.loadHold = true → o = .next ({ s with bus := none }.committing origin index
      (.verifying { mode := .immediate, origin := .loader } { position := p, index := 0, check := 0xFFFF })))
    ∧ (nextChecked s.staged 0 = none →
      (readInProgress s = false → ReleasesHost s ({ s with bus := none }.switched.loadDone (index + 1)) o)
      ∧ (readInProgress s = true → o = .next ({ s with bus := none }.committing origin index
        (.pendingBoundary { mode := .immediate, origin := .loader })))) := by
  let u : State := setLoader (.committing origin (index + 1)) { s with bus := none }
  have verified : ∀ f, startCommit f u = verifyFrom f 0 u := fun f => startCommit_verified (s := u) hv
  rw [h]
  refine ⟨fun p hp hh => ?_, fun hp => ⟨fun hr => ?_, fun hr => ?_⟩⟩
  · exact loaderCommit_waits (s := { s with bus := none }) nofun ((verified _).trans (verifyFrom_next (s := u) hp)) (.inl hh)
  · exact (loaderCommit_ends (s := { s with bus := none }) (t := u.switched) (origin := origin) (n := index + 1) rfl rfl
      ((verified _).trans ((verifyFrom_ends (s := u) hp).trans (verificationEnds_switch (s := u) rfl hr))) rfl).of_host rfl
  · exact loaderCommit_waits (s := { s with bus := none }) nofun
      ((verified _).trans ((verifyFrom_ends (s := u) hp).trans (verificationEnds_boundary (s := u) rfl hr))) (.inr hr)

/-! ### A read of the loader -/

section

variable {words : LineWords} {a n : Nat} {buffer : List Word} (hb : s.bus = some (.loader a n))
  (hl : s.loader.state = .reading origin index position buffer) (hn : n ≤ 16)
include hb

theorem exec_loaderRead : exec (.memoryTransactionEnds words) s
    = attended (loaderWords (words.toList.take n) { s with bus := none }) := by
  show attended (transactionEnds words s) = _
  simp only [transactionEnds, hb]
  rfl

include hl hn

theorem loaderRead_reading : exec (.memoryTransactionEnds words) s = attended
    (let record := buffer ++ words.toList.take n
     let start := some (bootBase { s with bus := none } + (position - buffer.length))
     if record.length < 2 then setLoader (.reading origin index (position + n) record) { s with bus := none }
     else if recordLength record > 4200 then loadFails .length index start { s with bus := none }
     else if position - buffer.length + recordLength record + 3 > 65536 then
       loadFails .areaEnd index start { s with bus := none }
     else if record.length < recordLength record + 3 then
       setLoader (.reading origin index (position + n) record) { s with bus := none }
     else match recordFailure s record with
       | some reason => loadFails reason index start { s with bus := none }
       | none => applyRecord origin index (position + n) record { s with bus := none }) := by
  have length : (words.toList.take n).length = n := by
    simpa only [List.length_take, Vector.length_toList] using Nat.min_eq_left hn
  rw [exec_loaderRead hb, loaderWords_reading (s := { s with bus := none }) hl, length]
  rfl

end

/-- R174: a read that stops the load frees the bus and ends the load. -/
theorem loaderRead_stopped {reason : LoadReason} {start : Nat}
    (h : o = attended (loadFails reason index (some (bootBase { s with bus := none } + start)) { s with bus := none })) :
    ReleasesHost s ({ s with bus := none }.loadStopped reason.code index (s.loader.bootSector * 65536 + start)) o := by
  rw [h]
  exact (loadFails_stops (s := { s with bus := none }) rfl).of_host rfl

theorem loaderRead_continues {l : LoaderState} (hl : ∀ since, l ≠ .waiting .reload since)
    (h : o = attended (setLoader l { s with bus := none })) :
    o = .next { s with bus := none, loader := { s.loader with state := l } } :=
  h.trans (attended_quiet (.inl hl))

/-! ### An inline word -/

/-- R175: an inline word is stored, and after the last one the entry is staged and the next record begun. -/
theorem exec_loaderWrite {written i : Nat} {e : Entry} {buffer : List Word}
    (hport : portChoice s = some (.loader origin index position buffer written)) (he : overlayEntry buffer = some (i, e))
    (hl : live s (bodyWord buffer 5 + written / 16) = false)
    (hp : stagedProtected s (bodyWord buffer 5 + written / 16) = false) :
    let stored : State := { s with
      store := s.store.write ((bodyWord buffer 5 + written / 16) * 16 + written % 16) (buffer.getD (13 + written) 0) }
    exec .storePortAccess s = attended (if written + 1 < bodyWord buffer 4 * 16 then
        setLoader (.applying origin index position buffer (written + 1)) stored
      else nextRecord origin index position { stored with staged := s.staged.setIfInBounds i (some e) }) := by
  have free : ¬ (portRefusal s (bodyWord buffer 5 + written / Config.lineWords)).isSome := by
    simp [show portRefusal s (bodyWord buffer 5 + written / Config.lineWords) = none from portRefusal_none_iff hl hp]
  intro stored
  show attended (portAccess s) = _
  rw [portAccess, hport]
  show attended (loaderWrite origin index position buffer written s) = _
  simp only [loaderWrite, if_neg free, stageOverlay, he]
  rfl

/-- Settles O53. -/
theorem loaderReadsCheckAndEndTheLoad : Obligations.LoaderReadsCheckAndEndTheLoad := by
  refine ⟨?_, ?_⟩
  · intro s words origin index position a n buffer hl hb hn record start body stopped whole f committing released follows
    have read := loaderRead_reading (words := words) hb hl hn
    refine ⟨fun h => ?_, fun h2 h => ?_, fun h2 h3 h => ?_, fun h2 h3 h4 h => ?_,
      fun reason ⟨h2, h3, h4, h5⟩ h => ?_, fun ⟨h2, h3, h4, h5⟩ hf => ?_, fun ⟨h2, h3, h4, h5⟩ hf ht => ?_⟩
    · rw [if_pos h] at read
      exact loaderRead_continues (fun _ g => nomatch g) read
    · rw [if_neg (Nat.not_lt.mpr h2), if_pos h] at read
      exact loaderRead_stopped (reason := .length) read
    · rw [if_neg (Nat.not_lt.mpr h2), if_neg (Nat.not_lt.mpr h3), if_pos h] at read
      exact loaderRead_stopped (reason := .areaEnd) read
    · rw [if_neg (Nat.not_lt.mpr h2), if_neg (Nat.not_lt.mpr h3), if_neg (Nat.not_lt.mpr h4), if_pos h] at read
      exact loaderRead_continues (fun _ g => nomatch g) read
    · rw [if_neg (Nat.not_lt.mpr h2), if_neg (Nat.not_lt.mpr h3), if_neg (Nat.not_lt.mpr h4), if_neg (Nat.not_lt.mpr h5),
        h] at read
      exact loaderRead_stopped read
    · rw [if_neg (Nat.not_lt.mpr h2), if_neg (Nat.not_lt.mpr h3), if_neg (Nat.not_lt.mpr h4), if_neg (Nat.not_lt.mpr h5),
        hf] at read
      have range := recordFailure_none hf
      exact ⟨overlay_follows read range,
        fun ht hi => loaderRead_continues (fun _ g => nomatch g) (read.trans (congrArg attended (applyRecord_inline ht hi))),
        lock_follows read range, policy_follows read range, enable_follows read range⟩
    · rw [if_neg (Nat.not_lt.mpr h2), if_neg (Nat.not_lt.mpr h3), if_neg (Nat.not_lt.mpr h4), if_neg (Nat.not_lt.mpr h5),
        hf] at read
      have commits := read.trans (congrArg attended (applyRecord_end ht))
      exact ⟨fun r hv => loaderCommit_rejected commits hv, loaderCommit_verified commits⟩
  · intro s origin index position written i e buffer hport he slot stored hlive hprot stopped
    have access := exec_loaderWrite hport he hlive hprot
    refine ⟨fun h => ?_, fun h => ?_⟩
    · exact access.trans ((congrArg attended (if_pos h)).trans (attended_quiet (.inl fun since g => nomatch g)))
    · have follows := access.trans (congrArg attended (if_neg (Nat.not_lt.mpr h)))
      obtain ⟨begins, limit, areaEnd⟩ := nextRecord_begins (origin := origin) (index := index) (position := position)
        (s := { stored with staged := s.staged.setIfInBounds i (some e) }) rfl
      rw [follows]
      exact ⟨begins, fun hi => (limit hi).of_host rfl, fun hi hp => (areaEnd hi hp).of_host rfl⟩

end Sys2Proof.Machine
end
